-- ==== Sys2Proof/Word.lean ====
section
/-! DEFINITION. The word types of the machine (00_scope.md R7, R10): bytes, 16-bit words and
addresses, 32-bit pixels, and the plain-data form of every memory. -/

namespace Sys2Proof

/-- An 8-bit quantity: a general register, a byte of memory (R7). -/
abbrev Byte := BitVec 8

/-- A 16-bit quantity: PC, SP, a register pair, a bus address (R7). -/
abbrev Word := BitVec 16

/-- A 32-bit pixel value of the FIFO and the framebuffer (R44, R45). -/
abbrev Pixel := BitVec 32

/-- A sparse memory of `w`-bit cells: (index, value) pairs in rising order of index, none holding
the value an unlisted index reads as. -/
abbrev Cells (w : Nat) := List (Nat × BitVec w)

/-- A byte memory, a list of `Host.Cell`. -/
abbrev Memory := Cells 8

end Sys2Proof
end

