-- ==== Sys2Proof/Config.lean ====
section
/-! DEFINITION. The open parameters of the machine (00_scope.md R9) as plain data, the external
devices' plain-data form (20_memory.md R81, R100), and the free values: constants without a body, of
which nothing can be proved. -/

namespace Sys2Proof

/-- `MODE` (R3, D2): the console variant, fixed at power-on. -/
inductive Mode where
  | dmg
  | cgb
  deriving DecidableEq, Repr

/-- `CGB_VIDEO_IO` (R9, D31): what an access to a colour-mode video register does. -/
inductive CgbVideoIo where
  | refuse
  | benign
  deriving DecidableEq, Repr

/-- `SHADE_ARGB` (R542, D49) as plain data: the pixel value of each shade, 0 lightest. -/
structure Shades where
  shade0 : Pixel
  shade1 : Pixel
  shade2 : Pixel
  shade3 : Pixel
  deriving DecidableEq, Repr

/-- The default of `SHADE_ARGB` (R542). -/
def Shades.default : Shades :=
  { shade0 := 0xFFFFFFFF, shade1 := 0xFFAAAAAA, shade2 := 0xFF555555, shade3 := 0xFF000000 }

/-- An opcode of one of the two pages (R150-R154): a first byte, or the byte after 0xCB. -/
inductive Opcode where
  | main (op : Byte)
  | cb (op2 : Byte)
  deriving DecidableEq, Repr

/-- One line of `CYCLE_TABLE` (R9, R189), as the number of internal cycles in each place; an entry not
listed is 0, one beyond the instruction's bytes or accesses has no place. The accesses are the instruction's
own, in their order, whatever the line says. `fetch`: entry k between the k-th fetched byte, from 0 on, and the
next one (for the 0xCB page, on the line of 0xCB). `taken`: entry 0 after the last fetched byte, entry k after
the k-th access of the effect, from 1 on. `notTaken`: after the last fetched byte, where a condition fails. STOP
and the illegal opcodes have no internal cycle (R587). -/
structure CycleLine where
  fetch : List Nat := []
  taken : List Nat := []
  notTaken : Nat := 0
  deriving DecidableEq, Repr

/-- The open parameters of R9 that the machine's rules read. They stand in State so that a statement
about every state is a statement about every choice of them; no step changes them. `cycleTable` lists the
lines of `CYCLE_TABLE` that differ from its default (R189). -/
structure Params where
  mode : Mode
  cgbVideoIo : CgbVideoIo
  lcdOffStopsPpu : Bool
  shades : Shades
  cycleTable : List (Opcode × CycleLine)
  deriving DecidableEq, Repr

/-- The defaults of R9; `MODE` has none, DMG is the model's (log 3). -/
def Params.default : Params :=
  { mode := .dmg, cgbVideoIo := .refuse, lcdOffStopsPpu := false, shades := Shades.default,
    cycleTable := [] }

/-- The external devices reached through the bus (R81, R100). -/
inductive DeviceId where
  | cart
  | joypad
  | serial
  | sound
  deriving DecidableEq, Repr

/-- What can happen to an external device: a write by the machine, or a change made by the host
between steps (R46, R191), named by a number the host chooses. -/
inductive DeviceEvent where
  | write (address : Word) (value : Byte)
  | host (change : Nat)
  deriving DecidableEq, Repr

/-- An external device as plain data (R46, R81, R100; log 5). Its state, opaque to the engine, is
the history of what happened to it, oldest first. `image` lists the addresses whose content is known
and constant (a program in ROM); `fill` says what every other address reads as: a known byte, or
nothing known. -/
structure Device where
  image : List (Nat × Byte)
  fill : Option Byte
  history : List DeviceEvent
  deriving DecidableEq, Repr

/-- A device of which nothing is known: the parameters `Cart`, `Joypad`, `Serial` and `Sound`. -/
def Device.unknown : Device := { image := [], fill := none, history := [] }

/-- FREE VALUE (log 5): what an external device answers to a read of an address, given its history,
where nothing is known of it. `Cart.read(s, a)` and its likes (R81, R100) are parameters. -/
opaque Config.deviceRead : DeviceId → List DeviceEvent → Word → Byte

/-- FREE VALUE (log 6): the pixel written to the framebuffer in CGB mode, a draw (R516). -/
opaque Config.cgbPixel : Nat → Pixel

end Sys2Proof
end

