-- ==== Sys2Proof/Syntax.lean ====
section
/-! DEFINITION. The instruction set as syntax: one constructor of `Instr` for each row of the opcode
table (30_encoding.md R140-R159), and the operand names the rules use. -/

namespace Sys2Proof

/-- The 8-bit registers an instruction can name (R142; field 6 is (HL), no register). -/
inductive Reg8 where
  | b | c | d | e | h | l | a
  deriving DecidableEq, Repr

/-- The 16-bit registers of the field `rp` (R143). -/
inductive Reg16 where
  | bc | de | hl | sp
  deriving DecidableEq, Repr

/-- The 16-bit registers of the field `rp2`, for PUSH and POP (R144). -/
inductive StackReg where
  | bc | de | hl | af
  deriving DecidableEq, Repr

/-- The branch conditions of the field `cc` (R145). -/
inductive Cond where
  | nz | z | nc | c
  deriving DecidableEq, Repr

/-- The accumulator operations of the field `alu` (R146). -/
inductive AluOp where
  | add | adc | sub | sbc | and | xor | or | cp
  deriving DecidableEq, Repr

/-- The rotates and shifts of the field `rot` (R147). -/
inductive RotOp where
  | rlc | rrc | rl | rr | sla | sra | swap | srl
  deriving DecidableEq, Repr

/-- An 8-bit operand (R149): a register, the byte in memory at HL (field 6 of R142), or an immediate
byte. -/
inductive Operand8 where
  | reg (r : Reg8)
  | memHl
  | imm (v : Byte)
  deriving DecidableEq, Repr

/-- The instructions: each constructor is one row of the opcode table, named after its mnemonic with
`Mem` for a parenthesised operand, `cb` before the rows of the 0xCB page, and the immediates of R148 as
arguments. `prefixCb` is the prefix byte 0xCB (R346), `illegalXX` the eleven opcodes of R155. -/
inductive Instr where
  -- the opcodes with an immediate, 0x01 to 0xFE (first: the compiler numbers constructors
  -- with arguments only up to a limit)
  | ldBcD16 (d16 : Word) | ldBD8 (d8 : Byte) | ldMemA16Sp (a16 : Word) | ldCD8 (d8 : Byte)
  | ldDeD16 (d16 : Word) | ldDD8 (d8 : Byte) | jrE8 (e8 : Byte) | ldED8 (d8 : Byte)
  | jrNzE8 (e8 : Byte) | ldHlD16 (d16 : Word) | ldHD8 (d8 : Byte) | jrZE8 (e8 : Byte)
  | ldLD8 (d8 : Byte) | jrNcE8 (e8 : Byte) | ldSpD16 (d16 : Word) | ldMemHlD8 (d8 : Byte)
  | jrCE8 (e8 : Byte) | ldAD8 (d8 : Byte) | jpNzA16 (a16 : Word) | jpA16 (a16 : Word)
  | callNzA16 (a16 : Word) | addAD8 (d8 : Byte) | jpZA16 (a16 : Word) | callZA16 (a16 : Word)
  | callA16 (a16 : Word) | adcAD8 (d8 : Byte) | jpNcA16 (a16 : Word) | callNcA16 (a16 : Word)
  | subAD8 (d8 : Byte) | jpCA16 (a16 : Word) | callCA16 (a16 : Word) | sbcAD8 (d8 : Byte)
  | ldhMemA8A (a8 : Byte) | andAD8 (d8 : Byte) | addSpE8 (e8 : Byte) | ldMemA16A (a16 : Word)
  | xorAD8 (d8 : Byte) | ldhAMemA8 (a8 : Byte) | orAD8 (d8 : Byte) | ldHlSpE8 (e8 : Byte)
  | ldAMemA16 (a16 : Word) | cpAD8 (d8 : Byte)
  -- the other opcodes 0x00-0x0F
  | nop | ldMemBcA | incBc | incB | decB | rlca | addHlBc | ldAMemBc | decBc | incC | decC | rrca
  -- the other opcodes 0x10-0x1F
  | stop | ldMemDeA | incDe | incD | decD | rla | addHlDe | ldAMemDe | decDe | incE | decE | rra
  -- the other opcodes 0x20-0x2F
  | ldMemHlIncA | incHl | incH | decH | daa | addHlHl | ldAMemHlInc | decHl | incL | decL | cpl
  -- the other opcodes 0x30-0x3F
  | ldMemHlDecA | incSp | incMemHl | decMemHl | scf | addHlSp | ldAMemHlDec | decSp | incA | decA
  | ccf
  -- the other opcodes 0x40-0x4F
  | ldBB | ldBC | ldBD | ldBE | ldBH | ldBL | ldBMemHl | ldBA | ldCB | ldCC | ldCD | ldCE | ldCH
  | ldCL | ldCMemHl | ldCA
  -- the other opcodes 0x50-0x5F
  | ldDB | ldDC | ldDD | ldDE | ldDH | ldDL | ldDMemHl | ldDA | ldEB | ldEC | ldED | ldEE | ldEH
  | ldEL | ldEMemHl | ldEA
  -- the other opcodes 0x60-0x6F
  | ldHB | ldHC | ldHD | ldHE | ldHH | ldHL | ldHMemHl | ldHA | ldLB | ldLC | ldLD | ldLE | ldLH
  | ldLL | ldLMemHl | ldLA
  -- the other opcodes 0x70-0x7F
  | ldMemHlB | ldMemHlC | ldMemHlD | ldMemHlE | ldMemHlH | ldMemHlL | halt | ldMemHlA | ldAB
  | ldAC | ldAD | ldAE | ldAH | ldAL | ldAMemHl | ldAA
  -- the other opcodes 0x80-0x8F
  | addAB | addAC | addAD | addAE | addAH | addAL | addAMemHl | addAA | adcAB | adcAC | adcAD
  | adcAE | adcAH | adcAL | adcAMemHl | adcAA
  -- the other opcodes 0x90-0x9F
  | subAB | subAC | subAD | subAE | subAH | subAL | subAMemHl | subAA | sbcAB | sbcAC | sbcAD
  | sbcAE | sbcAH | sbcAL | sbcAMemHl | sbcAA
  -- the other opcodes 0xA0-0xAF
  | andAB | andAC | andAD | andAE | andAH | andAL | andAMemHl | andAA | xorAB | xorAC | xorAD
  | xorAE | xorAH | xorAL | xorAMemHl | xorAA
  -- the other opcodes 0xB0-0xBF
  | orAB | orAC | orAD | orAE | orAH | orAL | orAMemHl | orAA | cpAB | cpAC | cpAD | cpAE | cpAH
  | cpAL | cpAMemHl | cpAA
  -- the other opcodes 0xC0-0xCF
  | retNz | popBc | pushBc | rst00 | retZ | ret | prefixCb | rst08
  -- the other opcodes 0xD0-0xDF
  | retNc | popDe | illegalD3 | pushDe | rst10 | retC | reti | illegalDB | illegalDD | rst18
  -- the other opcodes 0xE0-0xEF
  | popHl | ldMemCA | illegalE3 | illegalE4 | pushHl | rst20 | jpHl | illegalEB | illegalEC
  | illegalED | rst28
  -- the other opcodes 0xF0-0xFF
  | popAf | ldAMemC | di | illegalF4 | pushAf | rst30 | ldSpHl | ei | illegalFC | illegalFD
  | rst38
  -- 0xCB page, second bytes 0x00-0x0F
  | cbRlcB | cbRlcC | cbRlcD | cbRlcE | cbRlcH | cbRlcL | cbRlcMemHl | cbRlcA | cbRrcB | cbRrcC
  | cbRrcD | cbRrcE | cbRrcH | cbRrcL | cbRrcMemHl | cbRrcA
  -- 0xCB page, second bytes 0x10-0x1F
  | cbRlB | cbRlC | cbRlD | cbRlE | cbRlH | cbRlL | cbRlMemHl | cbRlA | cbRrB | cbRrC | cbRrD
  | cbRrE | cbRrH | cbRrL | cbRrMemHl | cbRrA
  -- 0xCB page, second bytes 0x20-0x2F
  | cbSlaB | cbSlaC | cbSlaD | cbSlaE | cbSlaH | cbSlaL | cbSlaMemHl | cbSlaA | cbSraB | cbSraC
  | cbSraD | cbSraE | cbSraH | cbSraL | cbSraMemHl | cbSraA
  -- 0xCB page, second bytes 0x30-0x3F
  | cbSwapB | cbSwapC | cbSwapD | cbSwapE | cbSwapH | cbSwapL | cbSwapMemHl | cbSwapA | cbSrlB
  | cbSrlC | cbSrlD | cbSrlE | cbSrlH | cbSrlL | cbSrlMemHl | cbSrlA
  -- 0xCB page, second bytes 0x40-0x4F
  | cbBit0B | cbBit0C | cbBit0D | cbBit0E | cbBit0H | cbBit0L | cbBit0MemHl | cbBit0A | cbBit1B
  | cbBit1C | cbBit1D | cbBit1E | cbBit1H | cbBit1L | cbBit1MemHl | cbBit1A
  -- 0xCB page, second bytes 0x50-0x5F
  | cbBit2B | cbBit2C | cbBit2D | cbBit2E | cbBit2H | cbBit2L | cbBit2MemHl | cbBit2A | cbBit3B
  | cbBit3C | cbBit3D | cbBit3E | cbBit3H | cbBit3L | cbBit3MemHl | cbBit3A
  -- 0xCB page, second bytes 0x60-0x6F
  | cbBit4B | cbBit4C | cbBit4D | cbBit4E | cbBit4H | cbBit4L | cbBit4MemHl | cbBit4A | cbBit5B
  | cbBit5C | cbBit5D | cbBit5E | cbBit5H | cbBit5L | cbBit5MemHl | cbBit5A
  -- 0xCB page, second bytes 0x70-0x7F
  | cbBit6B | cbBit6C | cbBit6D | cbBit6E | cbBit6H | cbBit6L | cbBit6MemHl | cbBit6A | cbBit7B
  | cbBit7C | cbBit7D | cbBit7E | cbBit7H | cbBit7L | cbBit7MemHl | cbBit7A
  -- 0xCB page, second bytes 0x80-0x8F
  | cbRes0B | cbRes0C | cbRes0D | cbRes0E | cbRes0H | cbRes0L | cbRes0MemHl | cbRes0A | cbRes1B
  | cbRes1C | cbRes1D | cbRes1E | cbRes1H | cbRes1L | cbRes1MemHl | cbRes1A
  -- 0xCB page, second bytes 0x90-0x9F
  | cbRes2B | cbRes2C | cbRes2D | cbRes2E | cbRes2H | cbRes2L | cbRes2MemHl | cbRes2A | cbRes3B
  | cbRes3C | cbRes3D | cbRes3E | cbRes3H | cbRes3L | cbRes3MemHl | cbRes3A
  -- 0xCB page, second bytes 0xA0-0xAF
  | cbRes4B | cbRes4C | cbRes4D | cbRes4E | cbRes4H | cbRes4L | cbRes4MemHl | cbRes4A | cbRes5B
  | cbRes5C | cbRes5D | cbRes5E | cbRes5H | cbRes5L | cbRes5MemHl | cbRes5A
  -- 0xCB page, second bytes 0xB0-0xBF
  | cbRes6B | cbRes6C | cbRes6D | cbRes6E | cbRes6H | cbRes6L | cbRes6MemHl | cbRes6A | cbRes7B
  | cbRes7C | cbRes7D | cbRes7E | cbRes7H | cbRes7L | cbRes7MemHl | cbRes7A
  -- 0xCB page, second bytes 0xC0-0xCF
  | cbSet0B | cbSet0C | cbSet0D | cbSet0E | cbSet0H | cbSet0L | cbSet0MemHl | cbSet0A | cbSet1B
  | cbSet1C | cbSet1D | cbSet1E | cbSet1H | cbSet1L | cbSet1MemHl | cbSet1A
  -- 0xCB page, second bytes 0xD0-0xDF
  | cbSet2B | cbSet2C | cbSet2D | cbSet2E | cbSet2H | cbSet2L | cbSet2MemHl | cbSet2A | cbSet3B
  | cbSet3C | cbSet3D | cbSet3E | cbSet3H | cbSet3L | cbSet3MemHl | cbSet3A
  -- 0xCB page, second bytes 0xE0-0xEF
  | cbSet4B | cbSet4C | cbSet4D | cbSet4E | cbSet4H | cbSet4L | cbSet4MemHl | cbSet4A | cbSet5B
  | cbSet5C | cbSet5D | cbSet5E | cbSet5H | cbSet5L | cbSet5MemHl | cbSet5A
  -- 0xCB page, second bytes 0xF0-0xFF
  | cbSet6B | cbSet6C | cbSet6D | cbSet6E | cbSet6H | cbSet6L | cbSet6MemHl | cbSet6A | cbSet7B
  | cbSet7C | cbSet7D | cbSet7E | cbSet7H | cbSet7L | cbSet7MemHl | cbSet7A
  deriving DecidableEq, Repr

end Sys2Proof
end

