-- ==== Sys2Proof/WellFormed.lean ====
section
/-! DEFINITION. Which terms of `Instr` are complete instructions. Every operand is typed at its exact
width (30_encoding.md R148), so the one check left is R346's: the prefix byte 0xCB is never an
instruction of its own. -/

namespace Sys2Proof

/-- A complete instruction: anything but the bare prefix byte (R346). -/
def Instr.wf (i : Instr) : Bool := i != .prefixCb

end Sys2Proof
end

