-- ==== Sys2Proof/Decode.lean ====
section
/-! DEFINITION. The decoder and the encoder of 30_encoding.md. The two grids are the opcode maps of
section 3 (R150-R154), row by row. -/

namespace Sys2Proof

/-- Why a byte string is no instruction. -/
inductive DecodeError where
  /-- The string ends before the instruction does. -/
  | truncated
  /-- No handler is registered for the opcode (R192); unreachable, every opcode has one. -/
  | noHandler (opcode : Byte)
  deriving DecidableEq, Repr

/-- The 16-bit immediate of R148, low byte first in the stream. -/
def immWord (lo hi : Byte) : Word := hi ++ lo

/-- The low byte of a 16-bit value (R91). -/
def loByte (w : Word) : Byte := w.extractLsb' 0 8

/-- The high byte of a 16-bit value (R91). -/
def hiByte (w : Word) : Byte := w.extractLsb' 8 8

/-- Opcodes 0x00-0x0F. -/
def opcodeRow0 (n : Byte) (w : Word) : List Instr :=
  [.nop, .ldBcD16 w, .ldMemBcA, .incBc, .incB, .decB, .ldBD8 n, .rlca, .ldMemA16Sp w, .addHlBc,
   .ldAMemBc, .decBc, .incC, .decC, .ldCD8 n, .rrca]

/-- Opcodes 0x10-0x1F. -/
def opcodeRow1 (n : Byte) (w : Word) : List Instr :=
  [.stop, .ldDeD16 w, .ldMemDeA, .incDe, .incD, .decD, .ldDD8 n, .rla, .jrE8 n, .addHlDe,
   .ldAMemDe, .decDe, .incE, .decE, .ldED8 n, .rra]

/-- Opcodes 0x20-0x2F. -/
def opcodeRow2 (n : Byte) (w : Word) : List Instr :=
  [.jrNzE8 n, .ldHlD16 w, .ldMemHlIncA, .incHl, .incH, .decH, .ldHD8 n, .daa, .jrZE8 n, .addHlHl,
   .ldAMemHlInc, .decHl, .incL, .decL, .ldLD8 n, .cpl]

/-- Opcodes 0x30-0x3F. -/
def opcodeRow3 (n : Byte) (w : Word) : List Instr :=
  [.jrNcE8 n, .ldSpD16 w, .ldMemHlDecA, .incSp, .incMemHl, .decMemHl, .ldMemHlD8 n, .scf,
   .jrCE8 n, .addHlSp, .ldAMemHlDec, .decSp, .incA, .decA, .ldAD8 n, .ccf]

/-- Opcodes 0x40-0x4F. -/
def opcodeRow4 (_n : Byte) (_w : Word) : List Instr :=
  [.ldBB, .ldBC, .ldBD, .ldBE, .ldBH, .ldBL, .ldBMemHl, .ldBA, .ldCB, .ldCC, .ldCD, .ldCE, .ldCH,
   .ldCL, .ldCMemHl, .ldCA]

/-- Opcodes 0x50-0x5F. -/
def opcodeRow5 (_n : Byte) (_w : Word) : List Instr :=
  [.ldDB, .ldDC, .ldDD, .ldDE, .ldDH, .ldDL, .ldDMemHl, .ldDA, .ldEB, .ldEC, .ldED, .ldEE, .ldEH,
   .ldEL, .ldEMemHl, .ldEA]

/-- Opcodes 0x60-0x6F. -/
def opcodeRow6 (_n : Byte) (_w : Word) : List Instr :=
  [.ldHB, .ldHC, .ldHD, .ldHE, .ldHH, .ldHL, .ldHMemHl, .ldHA, .ldLB, .ldLC, .ldLD, .ldLE, .ldLH,
   .ldLL, .ldLMemHl, .ldLA]

/-- Opcodes 0x70-0x7F. -/
def opcodeRow7 (_n : Byte) (_w : Word) : List Instr :=
  [.ldMemHlB, .ldMemHlC, .ldMemHlD, .ldMemHlE, .ldMemHlH, .ldMemHlL, .halt, .ldMemHlA, .ldAB,
   .ldAC, .ldAD, .ldAE, .ldAH, .ldAL, .ldAMemHl, .ldAA]

/-- Opcodes 0x80-0x8F. -/
def opcodeRow8 (_n : Byte) (_w : Word) : List Instr :=
  [.addAB, .addAC, .addAD, .addAE, .addAH, .addAL, .addAMemHl, .addAA, .adcAB, .adcAC, .adcAD,
   .adcAE, .adcAH, .adcAL, .adcAMemHl, .adcAA]

/-- Opcodes 0x90-0x9F. -/
def opcodeRow9 (_n : Byte) (_w : Word) : List Instr :=
  [.subAB, .subAC, .subAD, .subAE, .subAH, .subAL, .subAMemHl, .subAA, .sbcAB, .sbcAC, .sbcAD,
   .sbcAE, .sbcAH, .sbcAL, .sbcAMemHl, .sbcAA]

/-- Opcodes 0xA0-0xAF. -/
def opcodeRowA (_n : Byte) (_w : Word) : List Instr :=
  [.andAB, .andAC, .andAD, .andAE, .andAH, .andAL, .andAMemHl, .andAA, .xorAB, .xorAC, .xorAD,
   .xorAE, .xorAH, .xorAL, .xorAMemHl, .xorAA]

/-- Opcodes 0xB0-0xBF. -/
def opcodeRowB (_n : Byte) (_w : Word) : List Instr :=
  [.orAB, .orAC, .orAD, .orAE, .orAH, .orAL, .orAMemHl, .orAA, .cpAB, .cpAC, .cpAD, .cpAE, .cpAH,
   .cpAL, .cpAMemHl, .cpAA]

/-- Opcodes 0xC0-0xCF. -/
def opcodeRowC (n : Byte) (w : Word) : List Instr :=
  [.retNz, .popBc, .jpNzA16 w, .jpA16 w, .callNzA16 w, .pushBc, .addAD8 n, .rst00, .retZ, .ret,
   .jpZA16 w, .prefixCb, .callZA16 w, .callA16 w, .adcAD8 n, .rst08]

/-- Opcodes 0xD0-0xDF. -/
def opcodeRowD (n : Byte) (w : Word) : List Instr :=
  [.retNc, .popDe, .jpNcA16 w, .illegalD3, .callNcA16 w, .pushDe, .subAD8 n, .rst10, .retC,
   .reti, .jpCA16 w, .illegalDB, .callCA16 w, .illegalDD, .sbcAD8 n, .rst18]

/-- Opcodes 0xE0-0xEF. -/
def opcodeRowE (n : Byte) (w : Word) : List Instr :=
  [.ldhMemA8A n, .popHl, .ldMemCA, .illegalE3, .illegalE4, .pushHl, .andAD8 n, .rst20,
   .addSpE8 n, .jpHl, .ldMemA16A w, .illegalEB, .illegalEC, .illegalED, .xorAD8 n, .rst28]

/-- Opcodes 0xF0-0xFF. -/
def opcodeRowF (n : Byte) (w : Word) : List Instr :=
  [.ldhAMemA8 n, .popAf, .ldAMemC, .di, .illegalF4, .pushAf, .orAD8 n, .rst30, .ldHlSpE8 n,
   .ldSpHl, .ldAMemA16 w, .ei, .illegalFC, .illegalFD, .cpAD8 n, .rst38]

/-- The 0xCB page, second bytes 0x00-0x0F. -/
def cbRow0 : List Instr :=
  [.cbRlcB, .cbRlcC, .cbRlcD, .cbRlcE, .cbRlcH, .cbRlcL, .cbRlcMemHl, .cbRlcA, .cbRrcB, .cbRrcC,
   .cbRrcD, .cbRrcE, .cbRrcH, .cbRrcL, .cbRrcMemHl, .cbRrcA]

/-- The 0xCB page, second bytes 0x10-0x1F. -/
def cbRow1 : List Instr :=
  [.cbRlB, .cbRlC, .cbRlD, .cbRlE, .cbRlH, .cbRlL, .cbRlMemHl, .cbRlA, .cbRrB, .cbRrC, .cbRrD,
   .cbRrE, .cbRrH, .cbRrL, .cbRrMemHl, .cbRrA]

/-- The 0xCB page, second bytes 0x20-0x2F. -/
def cbRow2 : List Instr :=
  [.cbSlaB, .cbSlaC, .cbSlaD, .cbSlaE, .cbSlaH, .cbSlaL, .cbSlaMemHl, .cbSlaA, .cbSraB, .cbSraC,
   .cbSraD, .cbSraE, .cbSraH, .cbSraL, .cbSraMemHl, .cbSraA]

/-- The 0xCB page, second bytes 0x30-0x3F. -/
def cbRow3 : List Instr :=
  [.cbSwapB, .cbSwapC, .cbSwapD, .cbSwapE, .cbSwapH, .cbSwapL, .cbSwapMemHl, .cbSwapA, .cbSrlB,
   .cbSrlC, .cbSrlD, .cbSrlE, .cbSrlH, .cbSrlL, .cbSrlMemHl, .cbSrlA]

/-- The 0xCB page, second bytes 0x40-0x4F. -/
def cbRow4 : List Instr :=
  [.cbBit0B, .cbBit0C, .cbBit0D, .cbBit0E, .cbBit0H, .cbBit0L, .cbBit0MemHl, .cbBit0A, .cbBit1B,
   .cbBit1C, .cbBit1D, .cbBit1E, .cbBit1H, .cbBit1L, .cbBit1MemHl, .cbBit1A]

/-- The 0xCB page, second bytes 0x50-0x5F. -/
def cbRow5 : List Instr :=
  [.cbBit2B, .cbBit2C, .cbBit2D, .cbBit2E, .cbBit2H, .cbBit2L, .cbBit2MemHl, .cbBit2A, .cbBit3B,
   .cbBit3C, .cbBit3D, .cbBit3E, .cbBit3H, .cbBit3L, .cbBit3MemHl, .cbBit3A]

/-- The 0xCB page, second bytes 0x60-0x6F. -/
def cbRow6 : List Instr :=
  [.cbBit4B, .cbBit4C, .cbBit4D, .cbBit4E, .cbBit4H, .cbBit4L, .cbBit4MemHl, .cbBit4A, .cbBit5B,
   .cbBit5C, .cbBit5D, .cbBit5E, .cbBit5H, .cbBit5L, .cbBit5MemHl, .cbBit5A]

/-- The 0xCB page, second bytes 0x70-0x7F. -/
def cbRow7 : List Instr :=
  [.cbBit6B, .cbBit6C, .cbBit6D, .cbBit6E, .cbBit6H, .cbBit6L, .cbBit6MemHl, .cbBit6A, .cbBit7B,
   .cbBit7C, .cbBit7D, .cbBit7E, .cbBit7H, .cbBit7L, .cbBit7MemHl, .cbBit7A]

/-- The 0xCB page, second bytes 0x80-0x8F. -/
def cbRow8 : List Instr :=
  [.cbRes0B, .cbRes0C, .cbRes0D, .cbRes0E, .cbRes0H, .cbRes0L, .cbRes0MemHl, .cbRes0A, .cbRes1B,
   .cbRes1C, .cbRes1D, .cbRes1E, .cbRes1H, .cbRes1L, .cbRes1MemHl, .cbRes1A]

/-- The 0xCB page, second bytes 0x90-0x9F. -/
def cbRow9 : List Instr :=
  [.cbRes2B, .cbRes2C, .cbRes2D, .cbRes2E, .cbRes2H, .cbRes2L, .cbRes2MemHl, .cbRes2A, .cbRes3B,
   .cbRes3C, .cbRes3D, .cbRes3E, .cbRes3H, .cbRes3L, .cbRes3MemHl, .cbRes3A]

/-- The 0xCB page, second bytes 0xA0-0xAF. -/
def cbRowA : List Instr :=
  [.cbRes4B, .cbRes4C, .cbRes4D, .cbRes4E, .cbRes4H, .cbRes4L, .cbRes4MemHl, .cbRes4A, .cbRes5B,
   .cbRes5C, .cbRes5D, .cbRes5E, .cbRes5H, .cbRes5L, .cbRes5MemHl, .cbRes5A]

/-- The 0xCB page, second bytes 0xB0-0xBF. -/
def cbRowB : List Instr :=
  [.cbRes6B, .cbRes6C, .cbRes6D, .cbRes6E, .cbRes6H, .cbRes6L, .cbRes6MemHl, .cbRes6A, .cbRes7B,
   .cbRes7C, .cbRes7D, .cbRes7E, .cbRes7H, .cbRes7L, .cbRes7MemHl, .cbRes7A]

/-- The 0xCB page, second bytes 0xC0-0xCF. -/
def cbRowC : List Instr :=
  [.cbSet0B, .cbSet0C, .cbSet0D, .cbSet0E, .cbSet0H, .cbSet0L, .cbSet0MemHl, .cbSet0A, .cbSet1B,
   .cbSet1C, .cbSet1D, .cbSet1E, .cbSet1H, .cbSet1L, .cbSet1MemHl, .cbSet1A]

/-- The 0xCB page, second bytes 0xD0-0xDF. -/
def cbRowD : List Instr :=
  [.cbSet2B, .cbSet2C, .cbSet2D, .cbSet2E, .cbSet2H, .cbSet2L, .cbSet2MemHl, .cbSet2A, .cbSet3B,
   .cbSet3C, .cbSet3D, .cbSet3E, .cbSet3H, .cbSet3L, .cbSet3MemHl, .cbSet3A]

/-- The 0xCB page, second bytes 0xE0-0xEF. -/
def cbRowE : List Instr :=
  [.cbSet4B, .cbSet4C, .cbSet4D, .cbSet4E, .cbSet4H, .cbSet4L, .cbSet4MemHl, .cbSet4A, .cbSet5B,
   .cbSet5C, .cbSet5D, .cbSet5E, .cbSet5H, .cbSet5L, .cbSet5MemHl, .cbSet5A]

/-- The 0xCB page, second bytes 0xF0-0xFF. -/
def cbRowF : List Instr :=
  [.cbSet6B, .cbSet6C, .cbSet6D, .cbSet6E, .cbSet6H, .cbSet6L, .cbSet6MemHl, .cbSet6A, .cbSet7B,
   .cbSet7C, .cbSet7D, .cbSet7E, .cbSet7H, .cbSet7L, .cbSet7MemHl, .cbSet7A]

/-- The unprefixed opcode map (R150-R153, R155): the instruction of an opcode, its immediate byte
being `n` and its immediate word `w` where it has one. -/
def opcodeMap (op n : Byte) (w : Word) : Option Instr :=
  match op.toNat / 16 with
  | 0 => (opcodeRow0 n w)[op.toNat % 16]?
  | 1 => (opcodeRow1 n w)[op.toNat % 16]?
  | 2 => (opcodeRow2 n w)[op.toNat % 16]?
  | 3 => (opcodeRow3 n w)[op.toNat % 16]?
  | 4 => (opcodeRow4 n w)[op.toNat % 16]?
  | 5 => (opcodeRow5 n w)[op.toNat % 16]?
  | 6 => (opcodeRow6 n w)[op.toNat % 16]?
  | 7 => (opcodeRow7 n w)[op.toNat % 16]?
  | 8 => (opcodeRow8 n w)[op.toNat % 16]?
  | 9 => (opcodeRow9 n w)[op.toNat % 16]?
  | 10 => (opcodeRowA n w)[op.toNat % 16]?
  | 11 => (opcodeRowB n w)[op.toNat % 16]?
  | 12 => (opcodeRowC n w)[op.toNat % 16]?
  | 13 => (opcodeRowD n w)[op.toNat % 16]?
  | 14 => (opcodeRowE n w)[op.toNat % 16]?
  | _ => (opcodeRowF n w)[op.toNat % 16]?

/-- The prefixed opcode map (R154): the instruction of the byte after 0xCB. -/
def cbMap (op2 : Byte) : Option Instr :=
  match op2.toNat / 16 with
  | 0 => cbRow0[op2.toNat % 16]?
  | 1 => cbRow1[op2.toNat % 16]?
  | 2 => cbRow2[op2.toNat % 16]?
  | 3 => cbRow3[op2.toNat % 16]?
  | 4 => cbRow4[op2.toNat % 16]?
  | 5 => cbRow5[op2.toNat % 16]?
  | 6 => cbRow6[op2.toNat % 16]?
  | 7 => cbRow7[op2.toNat % 16]?
  | 8 => cbRow8[op2.toNat % 16]?
  | 9 => cbRow9[op2.toNat % 16]?
  | 10 => cbRowA[op2.toNat % 16]?
  | 11 => cbRowB[op2.toNat % 16]?
  | 12 => cbRowC[op2.toNat % 16]?
  | 13 => cbRowD[op2.toNat % 16]?
  | 14 => cbRowE[op2.toNat % 16]?
  | _ => cbRowF[op2.toNat % 16]?

/-- The first bytes of the three-byte instructions (R157). -/
def threeByteOpcodes : List Byte :=
  [0x01, 0x11, 0x21, 0x31, 0x08, 0xC2, 0xC3, 0xCA, 0xD2, 0xDA, 0xC4, 0xCC, 0xCD, 0xD4, 0xDC,
   0xEA, 0xFA]

/-- The first bytes of the two-byte instructions other than the 0xCB page (R157). -/
def twoByteOpcodes : List Byte :=
  [0x06, 0x0E, 0x16, 0x1E, 0x26, 0x2E, 0x36, 0x3E, 0x10, 0x18, 0x20, 0x28, 0x30, 0x38, 0xC6,
   0xCE, 0xD6, 0xDE, 0xE6, 0xEE, 0xF6, 0xFE, 0xE0, 0xF0, 0xE8, 0xF8]

/-- The length in bytes of an instruction, a function of its first byte alone (R157). -/
def instrLength (op : Byte) : Nat :=
  if op = 0xCB then 2
  else if threeByteOpcodes.contains op then 3
  else if twoByteOpcodes.contains op then 2
  else 1

/-- How many bytes after the opcode the machine fetches: the rest of the instruction, but for STOP,
whose second byte is never fetched (R140, R156). -/
def fetchedAfterOpcode (op : Byte) : Nat :=
  if op = 0x10 then 0 else instrLength op - 1

/-- What a map's answer is to the decoder. -/
def handlerOr (op : Byte) (rest : List Byte) : Option Instr → Except DecodeError (Instr × List Byte)
  | some i => .ok (i, rest)
  | none => .error (.noHandler op)

/-- The decoder, total on any byte string: the first instruction and the bytes after it (R157).
STOP's second byte is passed over, whatever it is and whether or not it is there (R156). The prefix
byte with nothing after it is read as `prefixCb`, which is not well-formed. -/
def decode : List Byte → Except DecodeError (Instr × List Byte)
  | [] => .error .truncated
  | op :: rest =>
    if op = 0xCB then
      match rest with
      | [] => .ok (.prefixCb, [])
      | op2 :: rest => handlerOr op2 rest (cbMap op2)
    else
      match fetchedAfterOpcode op, rest with
      | 0, rest => handlerOr op (if op = 0x10 then rest.drop 1 else rest) (opcodeMap op 0 0)
      | 1, n :: rest => handlerOr op rest (opcodeMap op n 0)
      | 2, lo :: hi :: rest => handlerOr op rest (opcodeMap op 0 (immWord lo hi))
      | _, _ => .error .truncated

/-- The encoder: the bytes of an instruction, first byte first, immediates low byte first (R140,
R148). STOP's unused second byte is written as 0. -/
def encode : Instr → List Byte
  | .nop => [0x00]
  | .ldBcD16 w => [0x01, loByte w, hiByte w]
  | .ldMemBcA => [0x02]
  | .incBc => [0x03]
  | .incB => [0x04]
  | .decB => [0x05]
  | .ldBD8 n => [0x06, n]
  | .rlca => [0x07]
  | .ldMemA16Sp w => [0x08, loByte w, hiByte w]
  | .addHlBc => [0x09]
  | .ldAMemBc => [0x0A]
  | .decBc => [0x0B]
  | .incC => [0x0C]
  | .decC => [0x0D]
  | .ldCD8 n => [0x0E, n]
  | .rrca => [0x0F]
  | .stop => [0x10, 0x00]
  | .ldDeD16 w => [0x11, loByte w, hiByte w]
  | .ldMemDeA => [0x12]
  | .incDe => [0x13]
  | .incD => [0x14]
  | .decD => [0x15]
  | .ldDD8 n => [0x16, n]
  | .rla => [0x17]
  | .jrE8 n => [0x18, n]
  | .addHlDe => [0x19]
  | .ldAMemDe => [0x1A]
  | .decDe => [0x1B]
  | .incE => [0x1C]
  | .decE => [0x1D]
  | .ldED8 n => [0x1E, n]
  | .rra => [0x1F]
  | .jrNzE8 n => [0x20, n]
  | .ldHlD16 w => [0x21, loByte w, hiByte w]
  | .ldMemHlIncA => [0x22]
  | .incHl => [0x23]
  | .incH => [0x24]
  | .decH => [0x25]
  | .ldHD8 n => [0x26, n]
  | .daa => [0x27]
  | .jrZE8 n => [0x28, n]
  | .addHlHl => [0x29]
  | .ldAMemHlInc => [0x2A]
  | .decHl => [0x2B]
  | .incL => [0x2C]
  | .decL => [0x2D]
  | .ldLD8 n => [0x2E, n]
  | .cpl => [0x2F]
  | .jrNcE8 n => [0x30, n]
  | .ldSpD16 w => [0x31, loByte w, hiByte w]
  | .ldMemHlDecA => [0x32]
  | .incSp => [0x33]
  | .incMemHl => [0x34]
  | .decMemHl => [0x35]
  | .ldMemHlD8 n => [0x36, n]
  | .scf => [0x37]
  | .jrCE8 n => [0x38, n]
  | .addHlSp => [0x39]
  | .ldAMemHlDec => [0x3A]
  | .decSp => [0x3B]
  | .incA => [0x3C]
  | .decA => [0x3D]
  | .ldAD8 n => [0x3E, n]
  | .ccf => [0x3F]
  | .ldBB => [0x40]
  | .ldBC => [0x41]
  | .ldBD => [0x42]
  | .ldBE => [0x43]
  | .ldBH => [0x44]
  | .ldBL => [0x45]
  | .ldBMemHl => [0x46]
  | .ldBA => [0x47]
  | .ldCB => [0x48]
  | .ldCC => [0x49]
  | .ldCD => [0x4A]
  | .ldCE => [0x4B]
  | .ldCH => [0x4C]
  | .ldCL => [0x4D]
  | .ldCMemHl => [0x4E]
  | .ldCA => [0x4F]
  | .ldDB => [0x50]
  | .ldDC => [0x51]
  | .ldDD => [0x52]
  | .ldDE => [0x53]
  | .ldDH => [0x54]
  | .ldDL => [0x55]
  | .ldDMemHl => [0x56]
  | .ldDA => [0x57]
  | .ldEB => [0x58]
  | .ldEC => [0x59]
  | .ldED => [0x5A]
  | .ldEE => [0x5B]
  | .ldEH => [0x5C]
  | .ldEL => [0x5D]
  | .ldEMemHl => [0x5E]
  | .ldEA => [0x5F]
  | .ldHB => [0x60]
  | .ldHC => [0x61]
  | .ldHD => [0x62]
  | .ldHE => [0x63]
  | .ldHH => [0x64]
  | .ldHL => [0x65]
  | .ldHMemHl => [0x66]
  | .ldHA => [0x67]
  | .ldLB => [0x68]
  | .ldLC => [0x69]
  | .ldLD => [0x6A]
  | .ldLE => [0x6B]
  | .ldLH => [0x6C]
  | .ldLL => [0x6D]
  | .ldLMemHl => [0x6E]
  | .ldLA => [0x6F]
  | .ldMemHlB => [0x70]
  | .ldMemHlC => [0x71]
  | .ldMemHlD => [0x72]
  | .ldMemHlE => [0x73]
  | .ldMemHlH => [0x74]
  | .ldMemHlL => [0x75]
  | .halt => [0x76]
  | .ldMemHlA => [0x77]
  | .ldAB => [0x78]
  | .ldAC => [0x79]
  | .ldAD => [0x7A]
  | .ldAE => [0x7B]
  | .ldAH => [0x7C]
  | .ldAL => [0x7D]
  | .ldAMemHl => [0x7E]
  | .ldAA => [0x7F]
  | .addAB => [0x80]
  | .addAC => [0x81]
  | .addAD => [0x82]
  | .addAE => [0x83]
  | .addAH => [0x84]
  | .addAL => [0x85]
  | .addAMemHl => [0x86]
  | .addAA => [0x87]
  | .adcAB => [0x88]
  | .adcAC => [0x89]
  | .adcAD => [0x8A]
  | .adcAE => [0x8B]
  | .adcAH => [0x8C]
  | .adcAL => [0x8D]
  | .adcAMemHl => [0x8E]
  | .adcAA => [0x8F]
  | .subAB => [0x90]
  | .subAC => [0x91]
  | .subAD => [0x92]
  | .subAE => [0x93]
  | .subAH => [0x94]
  | .subAL => [0x95]
  | .subAMemHl => [0x96]
  | .subAA => [0x97]
  | .sbcAB => [0x98]
  | .sbcAC => [0x99]
  | .sbcAD => [0x9A]
  | .sbcAE => [0x9B]
  | .sbcAH => [0x9C]
  | .sbcAL => [0x9D]
  | .sbcAMemHl => [0x9E]
  | .sbcAA => [0x9F]
  | .andAB => [0xA0]
  | .andAC => [0xA1]
  | .andAD => [0xA2]
  | .andAE => [0xA3]
  | .andAH => [0xA4]
  | .andAL => [0xA5]
  | .andAMemHl => [0xA6]
  | .andAA => [0xA7]
  | .xorAB => [0xA8]
  | .xorAC => [0xA9]
  | .xorAD => [0xAA]
  | .xorAE => [0xAB]
  | .xorAH => [0xAC]
  | .xorAL => [0xAD]
  | .xorAMemHl => [0xAE]
  | .xorAA => [0xAF]
  | .orAB => [0xB0]
  | .orAC => [0xB1]
  | .orAD => [0xB2]
  | .orAE => [0xB3]
  | .orAH => [0xB4]
  | .orAL => [0xB5]
  | .orAMemHl => [0xB6]
  | .orAA => [0xB7]
  | .cpAB => [0xB8]
  | .cpAC => [0xB9]
  | .cpAD => [0xBA]
  | .cpAE => [0xBB]
  | .cpAH => [0xBC]
  | .cpAL => [0xBD]
  | .cpAMemHl => [0xBE]
  | .cpAA => [0xBF]
  | .retNz => [0xC0]
  | .popBc => [0xC1]
  | .jpNzA16 w => [0xC2, loByte w, hiByte w]
  | .jpA16 w => [0xC3, loByte w, hiByte w]
  | .callNzA16 w => [0xC4, loByte w, hiByte w]
  | .pushBc => [0xC5]
  | .addAD8 n => [0xC6, n]
  | .rst00 => [0xC7]
  | .retZ => [0xC8]
  | .ret => [0xC9]
  | .jpZA16 w => [0xCA, loByte w, hiByte w]
  | .prefixCb => [0xCB]
  | .callZA16 w => [0xCC, loByte w, hiByte w]
  | .callA16 w => [0xCD, loByte w, hiByte w]
  | .adcAD8 n => [0xCE, n]
  | .rst08 => [0xCF]
  | .retNc => [0xD0]
  | .popDe => [0xD1]
  | .jpNcA16 w => [0xD2, loByte w, hiByte w]
  | .illegalD3 => [0xD3]
  | .callNcA16 w => [0xD4, loByte w, hiByte w]
  | .pushDe => [0xD5]
  | .subAD8 n => [0xD6, n]
  | .rst10 => [0xD7]
  | .retC => [0xD8]
  | .reti => [0xD9]
  | .jpCA16 w => [0xDA, loByte w, hiByte w]
  | .illegalDB => [0xDB]
  | .callCA16 w => [0xDC, loByte w, hiByte w]
  | .illegalDD => [0xDD]
  | .sbcAD8 n => [0xDE, n]
  | .rst18 => [0xDF]
  | .ldhMemA8A n => [0xE0, n]
  | .popHl => [0xE1]
  | .ldMemCA => [0xE2]
  | .illegalE3 => [0xE3]
  | .illegalE4 => [0xE4]
  | .pushHl => [0xE5]
  | .andAD8 n => [0xE6, n]
  | .rst20 => [0xE7]
  | .addSpE8 n => [0xE8, n]
  | .jpHl => [0xE9]
  | .ldMemA16A w => [0xEA, loByte w, hiByte w]
  | .illegalEB => [0xEB]
  | .illegalEC => [0xEC]
  | .illegalED => [0xED]
  | .xorAD8 n => [0xEE, n]
  | .rst28 => [0xEF]
  | .ldhAMemA8 n => [0xF0, n]
  | .popAf => [0xF1]
  | .ldAMemC => [0xF2]
  | .di => [0xF3]
  | .illegalF4 => [0xF4]
  | .pushAf => [0xF5]
  | .orAD8 n => [0xF6, n]
  | .rst30 => [0xF7]
  | .ldHlSpE8 n => [0xF8, n]
  | .ldSpHl => [0xF9]
  | .ldAMemA16 w => [0xFA, loByte w, hiByte w]
  | .ei => [0xFB]
  | .illegalFC => [0xFC]
  | .illegalFD => [0xFD]
  | .cpAD8 n => [0xFE, n]
  | .rst38 => [0xFF]
  | .cbRlcB => [0xCB, 0x00]
  | .cbRlcC => [0xCB, 0x01]
  | .cbRlcD => [0xCB, 0x02]
  | .cbRlcE => [0xCB, 0x03]
  | .cbRlcH => [0xCB, 0x04]
  | .cbRlcL => [0xCB, 0x05]
  | .cbRlcMemHl => [0xCB, 0x06]
  | .cbRlcA => [0xCB, 0x07]
  | .cbRrcB => [0xCB, 0x08]
  | .cbRrcC => [0xCB, 0x09]
  | .cbRrcD => [0xCB, 0x0A]
  | .cbRrcE => [0xCB, 0x0B]
  | .cbRrcH => [0xCB, 0x0C]
  | .cbRrcL => [0xCB, 0x0D]
  | .cbRrcMemHl => [0xCB, 0x0E]
  | .cbRrcA => [0xCB, 0x0F]
  | .cbRlB => [0xCB, 0x10]
  | .cbRlC => [0xCB, 0x11]
  | .cbRlD => [0xCB, 0x12]
  | .cbRlE => [0xCB, 0x13]
  | .cbRlH => [0xCB, 0x14]
  | .cbRlL => [0xCB, 0x15]
  | .cbRlMemHl => [0xCB, 0x16]
  | .cbRlA => [0xCB, 0x17]
  | .cbRrB => [0xCB, 0x18]
  | .cbRrC => [0xCB, 0x19]
  | .cbRrD => [0xCB, 0x1A]
  | .cbRrE => [0xCB, 0x1B]
  | .cbRrH => [0xCB, 0x1C]
  | .cbRrL => [0xCB, 0x1D]
  | .cbRrMemHl => [0xCB, 0x1E]
  | .cbRrA => [0xCB, 0x1F]
  | .cbSlaB => [0xCB, 0x20]
  | .cbSlaC => [0xCB, 0x21]
  | .cbSlaD => [0xCB, 0x22]
  | .cbSlaE => [0xCB, 0x23]
  | .cbSlaH => [0xCB, 0x24]
  | .cbSlaL => [0xCB, 0x25]
  | .cbSlaMemHl => [0xCB, 0x26]
  | .cbSlaA => [0xCB, 0x27]
  | .cbSraB => [0xCB, 0x28]
  | .cbSraC => [0xCB, 0x29]
  | .cbSraD => [0xCB, 0x2A]
  | .cbSraE => [0xCB, 0x2B]
  | .cbSraH => [0xCB, 0x2C]
  | .cbSraL => [0xCB, 0x2D]
  | .cbSraMemHl => [0xCB, 0x2E]
  | .cbSraA => [0xCB, 0x2F]
  | .cbSwapB => [0xCB, 0x30]
  | .cbSwapC => [0xCB, 0x31]
  | .cbSwapD => [0xCB, 0x32]
  | .cbSwapE => [0xCB, 0x33]
  | .cbSwapH => [0xCB, 0x34]
  | .cbSwapL => [0xCB, 0x35]
  | .cbSwapMemHl => [0xCB, 0x36]
  | .cbSwapA => [0xCB, 0x37]
  | .cbSrlB => [0xCB, 0x38]
  | .cbSrlC => [0xCB, 0x39]
  | .cbSrlD => [0xCB, 0x3A]
  | .cbSrlE => [0xCB, 0x3B]
  | .cbSrlH => [0xCB, 0x3C]
  | .cbSrlL => [0xCB, 0x3D]
  | .cbSrlMemHl => [0xCB, 0x3E]
  | .cbSrlA => [0xCB, 0x3F]
  | .cbBit0B => [0xCB, 0x40]
  | .cbBit0C => [0xCB, 0x41]
  | .cbBit0D => [0xCB, 0x42]
  | .cbBit0E => [0xCB, 0x43]
  | .cbBit0H => [0xCB, 0x44]
  | .cbBit0L => [0xCB, 0x45]
  | .cbBit0MemHl => [0xCB, 0x46]
  | .cbBit0A => [0xCB, 0x47]
  | .cbBit1B => [0xCB, 0x48]
  | .cbBit1C => [0xCB, 0x49]
  | .cbBit1D => [0xCB, 0x4A]
  | .cbBit1E => [0xCB, 0x4B]
  | .cbBit1H => [0xCB, 0x4C]
  | .cbBit1L => [0xCB, 0x4D]
  | .cbBit1MemHl => [0xCB, 0x4E]
  | .cbBit1A => [0xCB, 0x4F]
  | .cbBit2B => [0xCB, 0x50]
  | .cbBit2C => [0xCB, 0x51]
  | .cbBit2D => [0xCB, 0x52]
  | .cbBit2E => [0xCB, 0x53]
  | .cbBit2H => [0xCB, 0x54]
  | .cbBit2L => [0xCB, 0x55]
  | .cbBit2MemHl => [0xCB, 0x56]
  | .cbBit2A => [0xCB, 0x57]
  | .cbBit3B => [0xCB, 0x58]
  | .cbBit3C => [0xCB, 0x59]
  | .cbBit3D => [0xCB, 0x5A]
  | .cbBit3E => [0xCB, 0x5B]
  | .cbBit3H => [0xCB, 0x5C]
  | .cbBit3L => [0xCB, 0x5D]
  | .cbBit3MemHl => [0xCB, 0x5E]
  | .cbBit3A => [0xCB, 0x5F]
  | .cbBit4B => [0xCB, 0x60]
  | .cbBit4C => [0xCB, 0x61]
  | .cbBit4D => [0xCB, 0x62]
  | .cbBit4E => [0xCB, 0x63]
  | .cbBit4H => [0xCB, 0x64]
  | .cbBit4L => [0xCB, 0x65]
  | .cbBit4MemHl => [0xCB, 0x66]
  | .cbBit4A => [0xCB, 0x67]
  | .cbBit5B => [0xCB, 0x68]
  | .cbBit5C => [0xCB, 0x69]
  | .cbBit5D => [0xCB, 0x6A]
  | .cbBit5E => [0xCB, 0x6B]
  | .cbBit5H => [0xCB, 0x6C]
  | .cbBit5L => [0xCB, 0x6D]
  | .cbBit5MemHl => [0xCB, 0x6E]
  | .cbBit5A => [0xCB, 0x6F]
  | .cbBit6B => [0xCB, 0x70]
  | .cbBit6C => [0xCB, 0x71]
  | .cbBit6D => [0xCB, 0x72]
  | .cbBit6E => [0xCB, 0x73]
  | .cbBit6H => [0xCB, 0x74]
  | .cbBit6L => [0xCB, 0x75]
  | .cbBit6MemHl => [0xCB, 0x76]
  | .cbBit6A => [0xCB, 0x77]
  | .cbBit7B => [0xCB, 0x78]
  | .cbBit7C => [0xCB, 0x79]
  | .cbBit7D => [0xCB, 0x7A]
  | .cbBit7E => [0xCB, 0x7B]
  | .cbBit7H => [0xCB, 0x7C]
  | .cbBit7L => [0xCB, 0x7D]
  | .cbBit7MemHl => [0xCB, 0x7E]
  | .cbBit7A => [0xCB, 0x7F]
  | .cbRes0B => [0xCB, 0x80]
  | .cbRes0C => [0xCB, 0x81]
  | .cbRes0D => [0xCB, 0x82]
  | .cbRes0E => [0xCB, 0x83]
  | .cbRes0H => [0xCB, 0x84]
  | .cbRes0L => [0xCB, 0x85]
  | .cbRes0MemHl => [0xCB, 0x86]
  | .cbRes0A => [0xCB, 0x87]
  | .cbRes1B => [0xCB, 0x88]
  | .cbRes1C => [0xCB, 0x89]
  | .cbRes1D => [0xCB, 0x8A]
  | .cbRes1E => [0xCB, 0x8B]
  | .cbRes1H => [0xCB, 0x8C]
  | .cbRes1L => [0xCB, 0x8D]
  | .cbRes1MemHl => [0xCB, 0x8E]
  | .cbRes1A => [0xCB, 0x8F]
  | .cbRes2B => [0xCB, 0x90]
  | .cbRes2C => [0xCB, 0x91]
  | .cbRes2D => [0xCB, 0x92]
  | .cbRes2E => [0xCB, 0x93]
  | .cbRes2H => [0xCB, 0x94]
  | .cbRes2L => [0xCB, 0x95]
  | .cbRes2MemHl => [0xCB, 0x96]
  | .cbRes2A => [0xCB, 0x97]
  | .cbRes3B => [0xCB, 0x98]
  | .cbRes3C => [0xCB, 0x99]
  | .cbRes3D => [0xCB, 0x9A]
  | .cbRes3E => [0xCB, 0x9B]
  | .cbRes3H => [0xCB, 0x9C]
  | .cbRes3L => [0xCB, 0x9D]
  | .cbRes3MemHl => [0xCB, 0x9E]
  | .cbRes3A => [0xCB, 0x9F]
  | .cbRes4B => [0xCB, 0xA0]
  | .cbRes4C => [0xCB, 0xA1]
  | .cbRes4D => [0xCB, 0xA2]
  | .cbRes4E => [0xCB, 0xA3]
  | .cbRes4H => [0xCB, 0xA4]
  | .cbRes4L => [0xCB, 0xA5]
  | .cbRes4MemHl => [0xCB, 0xA6]
  | .cbRes4A => [0xCB, 0xA7]
  | .cbRes5B => [0xCB, 0xA8]
  | .cbRes5C => [0xCB, 0xA9]
  | .cbRes5D => [0xCB, 0xAA]
  | .cbRes5E => [0xCB, 0xAB]
  | .cbRes5H => [0xCB, 0xAC]
  | .cbRes5L => [0xCB, 0xAD]
  | .cbRes5MemHl => [0xCB, 0xAE]
  | .cbRes5A => [0xCB, 0xAF]
  | .cbRes6B => [0xCB, 0xB0]
  | .cbRes6C => [0xCB, 0xB1]
  | .cbRes6D => [0xCB, 0xB2]
  | .cbRes6E => [0xCB, 0xB3]
  | .cbRes6H => [0xCB, 0xB4]
  | .cbRes6L => [0xCB, 0xB5]
  | .cbRes6MemHl => [0xCB, 0xB6]
  | .cbRes6A => [0xCB, 0xB7]
  | .cbRes7B => [0xCB, 0xB8]
  | .cbRes7C => [0xCB, 0xB9]
  | .cbRes7D => [0xCB, 0xBA]
  | .cbRes7E => [0xCB, 0xBB]
  | .cbRes7H => [0xCB, 0xBC]
  | .cbRes7L => [0xCB, 0xBD]
  | .cbRes7MemHl => [0xCB, 0xBE]
  | .cbRes7A => [0xCB, 0xBF]
  | .cbSet0B => [0xCB, 0xC0]
  | .cbSet0C => [0xCB, 0xC1]
  | .cbSet0D => [0xCB, 0xC2]
  | .cbSet0E => [0xCB, 0xC3]
  | .cbSet0H => [0xCB, 0xC4]
  | .cbSet0L => [0xCB, 0xC5]
  | .cbSet0MemHl => [0xCB, 0xC6]
  | .cbSet0A => [0xCB, 0xC7]
  | .cbSet1B => [0xCB, 0xC8]
  | .cbSet1C => [0xCB, 0xC9]
  | .cbSet1D => [0xCB, 0xCA]
  | .cbSet1E => [0xCB, 0xCB]
  | .cbSet1H => [0xCB, 0xCC]
  | .cbSet1L => [0xCB, 0xCD]
  | .cbSet1MemHl => [0xCB, 0xCE]
  | .cbSet1A => [0xCB, 0xCF]
  | .cbSet2B => [0xCB, 0xD0]
  | .cbSet2C => [0xCB, 0xD1]
  | .cbSet2D => [0xCB, 0xD2]
  | .cbSet2E => [0xCB, 0xD3]
  | .cbSet2H => [0xCB, 0xD4]
  | .cbSet2L => [0xCB, 0xD5]
  | .cbSet2MemHl => [0xCB, 0xD6]
  | .cbSet2A => [0xCB, 0xD7]
  | .cbSet3B => [0xCB, 0xD8]
  | .cbSet3C => [0xCB, 0xD9]
  | .cbSet3D => [0xCB, 0xDA]
  | .cbSet3E => [0xCB, 0xDB]
  | .cbSet3H => [0xCB, 0xDC]
  | .cbSet3L => [0xCB, 0xDD]
  | .cbSet3MemHl => [0xCB, 0xDE]
  | .cbSet3A => [0xCB, 0xDF]
  | .cbSet4B => [0xCB, 0xE0]
  | .cbSet4C => [0xCB, 0xE1]
  | .cbSet4D => [0xCB, 0xE2]
  | .cbSet4E => [0xCB, 0xE3]
  | .cbSet4H => [0xCB, 0xE4]
  | .cbSet4L => [0xCB, 0xE5]
  | .cbSet4MemHl => [0xCB, 0xE6]
  | .cbSet4A => [0xCB, 0xE7]
  | .cbSet5B => [0xCB, 0xE8]
  | .cbSet5C => [0xCB, 0xE9]
  | .cbSet5D => [0xCB, 0xEA]
  | .cbSet5E => [0xCB, 0xEB]
  | .cbSet5H => [0xCB, 0xEC]
  | .cbSet5L => [0xCB, 0xED]
  | .cbSet5MemHl => [0xCB, 0xEE]
  | .cbSet5A => [0xCB, 0xEF]
  | .cbSet6B => [0xCB, 0xF0]
  | .cbSet6C => [0xCB, 0xF1]
  | .cbSet6D => [0xCB, 0xF2]
  | .cbSet6E => [0xCB, 0xF3]
  | .cbSet6H => [0xCB, 0xF4]
  | .cbSet6L => [0xCB, 0xF5]
  | .cbSet6MemHl => [0xCB, 0xF6]
  | .cbSet6A => [0xCB, 0xF7]
  | .cbSet7B => [0xCB, 0xF8]
  | .cbSet7C => [0xCB, 0xF9]
  | .cbSet7D => [0xCB, 0xFA]
  | .cbSet7E => [0xCB, 0xFB]
  | .cbSet7H => [0xCB, 0xFC]
  | .cbSet7L => [0xCB, 0xFD]
  | .cbSet7MemHl => [0xCB, 0xFE]
  | .cbSet7A => [0xCB, 0xFF]

/-- The bytes of an instruction whose bits the opcode table numbers as `w` (log 15): bit 0 is the
least significant bit of the first byte, except that the table writes the two bytes of a 0xCB-page row
as one number with 0xCB in bits 15-8. Bytes beyond the given bits are 0. -/
def tableBytes (nbits w : Nat) : List Byte :=
  if nbits = 16 ∧ w / 256 = 0xCB then [0xCB, BitVec.ofNat 8 w, 0]
  else [BitVec.ofNat 8 w, BitVec.ofNat 8 (w / 256), BitVec.ofNat 8 (w / 65536)]

/-- The instruction the decoder reads from a word numbered as the opcode table numbers it. The 8-bit
row of the prefix byte is read as that byte alone (log 15). -/
def decodeTableWord (nbits w : Nat) : Option Instr :=
  match decode (if nbits ≤ 8 ∧ w = 0xCB then [0xCB] else tableBytes nbits w) with
  | .ok (i, _) => some i
  | .error _ => none

end Sys2Proof
end

