-- ==== Sys2Proof/Machine/State.lean ====
section
/-! DEFINITION. Everything the spec gives the machine (10_state.md R30-R63), as plain data, and the
state right after power-on. -/

namespace Sys2Proof.Machine

/-- What a fatal configuration error is about (60_exceptions.md R411; 92_eei_decisions.md D55). The spec
makes none of them reachable; each is what the rules say of a state no run reaches. -/
inductive ConfigError where
  /-- An opcode without a handler (R192). -/
  | missingHandler (opcode : Byte)
  /-- An OAM DMA cursor past OAM (R462). -/
  | oamOffset (index : Nat)
  /-- An HDMA destination outside video RAM (R478). -/
  | vramAddress (address : Word)
  /-- A pixel outside the framebuffer (R543). -/
  | framebufferOffset (line column : Nat)
  deriving DecidableEq, Repr

/-- The faults of R411. Each stops the machine for good; a stop is safe. -/
inductive Fault where
  /-- Raised by the eleven illegal opcodes, with the opcode and its address (R345). Safe. -/
  | illegalOpcode (opcode : Byte) (address : Word)
  /-- Raised where a rule meets a missing handler or an out-of-range offset (R101, R192, D55);
  no run from power-on reaches it. Safe. -/
  | fatalConfig (error : ConfigError)
  deriving DecidableEq, Repr

/-- The refusals of R412: behaviour the spec declines to define. Each stops the machine. -/
inductive Refusal where
  /-- An instruction this model gives no meaning yet (none is left). Safe. -/
  | notModelled (mnemonic : String)
  /-- Raised by STOP, with its address (R342). Safe. -/
  | refusedStop (address : Word)
  /-- Raised by an access to a colour-mode video register in CGB mode with `CGB_VIDEO_IO` = refuse
  (R87), with the accessed address. Safe. -/
  | refusedCgbVideo (address : Word)
  deriving DecidableEq, Repr

/-- `status` (R38). A step exists only in status running. -/
inductive Status where
  | running
  | faulted (info : Fault)
  | refused (reason : Refusal)
  deriving DecidableEq, Repr

/-- The CPU's registers (R30-R35) and run state (R36). -/
structure Cpu where
  a : Byte
  f : Byte
  b : Byte
  c : Byte
  d : Byte
  e : Byte
  h : Byte
  l : Byte
  sp : Word
  pc : Word
  halted : Bool
  ime : Bool
  imePending : Bool
  deriving DecidableEq, Repr

/-- The interrupt registers (R37): `ie` is IE, `req` the five request bits IF. -/
structure Irq where
  ie : Byte
  req : BitVec 5
  deriving DecidableEq, Repr

/-- The timer (R39, R440). -/
structure Timer where
  div : Word
  tima : Byte
  tma : Byte
  tac : BitVec 3
  deriving DecidableEq, Repr

/-- OAM DMA (R40): `delay` is 0 to 2, `index` 0 to 160, `reg` the byte last written to 0xFF46. -/
structure OamDma where
  active : Bool
  delay : Nat
  page : Byte
  index : Nat
  reg : Byte
  deriving DecidableEq, Repr

/-- HDMA (R41): `remaining` is 0 to 2048. -/
structure Hdma where
  active : Bool
  hblank : Bool
  src : Word
  dst : Word
  remaining : Nat
  hdma1 : Byte
  hdma2 : Byte
  hdma3 : Byte
  hdma4 : Byte
  deriving DecidableEq, Repr

/-- The PPU modes (R492): 0 HBlank, 1 VBlank, 2 OAM scan, 3 Transfer. -/
inductive PpuMode where
  | hblank
  | vblank
  | oamScan
  | transfer
  deriving DecidableEq, Repr

/-- The LCD registers (R42). STAT is three parts: `statEnables` (its bits 6-3), `coincidence` (bit 2)
and `mode` (bits 1-0). -/
structure Lcd where
  lcdc : Byte
  statEnables : BitVec 4
  coincidence : Bool
  mode : PpuMode
  scy : Byte
  scx : Byte
  ly : Byte
  lyc : Byte
  bgp : Byte
  obp0 : Byte
  obp1 : Byte
  wy : Byte
  wx : Byte
  deriving DecidableEq, Repr

/-- A sprite kept for the line: its OAM index and the four bytes of its entry (R507, R513). -/
structure Sprite where
  index : Nat
  y : Byte
  x : Byte
  tile : Byte
  attr : Byte
  deriving DecidableEq, Repr

/-- The PPU's internal state (R43): `lineTicks` is 0 to 456, `lineSprites` holds at most 10. -/
structure Ppu where
  lineTicks : Nat
  lineSprites : List Sprite
  windowLatch : Bool
  windowLine : Byte
  windowDrawn : Bool
  deriving DecidableEq, Repr

/-- The fetcher's states (R44, R532). -/
inductive FetchState where
  | tile
  | data0
  | data1
  | idle
  | push
  deriving DecidableEq, Repr

/-- The pixel pipeline (R44). `tileRow` is kept with `tileNo` (R533); `spriteLo` and `spriteHi` hold the
bitplane bytes of `fetched`, entry by entry, stale bytes after them. -/
structure Pipeline where
  fetchState : FetchState
  fetchX : Nat
  lineX : Nat
  pushedX : Nat
  fifoX : Nat
  scxFine : BitVec 3
  fetchWindow : Bool
  tileNo : Byte
  tileRow : BitVec 3
  tileLo : Byte
  tileHi : Byte
  fetched : List Sprite
  spriteLo : List Byte
  spriteHi : List Byte
  fifo : List Pixel
  deriving DecidableEq, Repr

/-- The internal memories (R45), each by offset, and the work-RAM bank register. `framebuffer` holds
the pixel of line y, column x at 160 y + x. -/
structure Mem where
  vram : Memory
  oam : Memory
  wram : Memory
  hram : Memory
  svbk : BitVec 3
  framebuffer : Cells 32
  deriving DecidableEq, Repr

/-- The external devices (R46). -/
structure Devices where
  cart : Device
  joypad : Device
  serial : Device
  sound : Device
  deriving DecidableEq, Repr

/-- A recorded event (R47). -/
inductive Event where
  | warning (address : Word)
  | frameComplete
  deriving DecidableEq, Repr

/-- The whole machine. `events` is the record of R47, oldest first. `draws` counts the CGB pixels drawn
so far (the model's own, log 6); `cycles` is the ghost machine-cycle count R591 allows (log 7). -/
structure State where
  params : Params
  status : Status
  cpu : Cpu
  irq : Irq
  timer : Timer
  dma : OamDma
  hdma : Hdma
  lcd : Lcd
  ppu : Ppu
  pipe : Pipeline
  mem : Mem
  dev : Devices
  events : List Event
  draws : Nat
  cycles : Nat
  deriving DecidableEq, Repr

/-- The table of R60 for one mode. -/
structure CpuProfile where
  cpu : Cpu
  irq : Irq
  status : Status
  deriving DecidableEq, Repr

/-- The table of R61, the divider apart. -/
structure DeviceProfile where
  tima : Byte
  tma : Byte
  tac : BitVec 3
  dma : OamDma
  hdma : Hdma
  lcd : Lcd
  svbk : BitVec 3
  deriving DecidableEq, Repr

/-- `RESET_PROFILE` (R9, R571): the power-on values of the registers, in each mode, and of the devices. -/
structure ResetProfile where
  dmg : CpuProfile
  cgb : CpuProfile
  devices : DeviceProfile
  deriving DecidableEq, Repr

/-- The part of `RESET_PROFILE` for `MODE` (R571). -/
def ResetProfile.forMode (r : ResetProfile) : Mode → CpuProfile
  | .dmg => r.dmg
  | .cgb => r.cgb

/-- The default of `RESET_PROFILE` (R60, R61). -/
def ResetProfile.default : ResetProfile :=
  { dmg :=
      { cpu :=
          { a := 0x01, f := 0xB0, b := 0x00, c := 0x13, d := 0x00, e := 0xD8, h := 0x01, l := 0x4D,
            sp := 0xFFFE, pc := 0x0100, halted := false, ime := false, imePending := false }
        irq := { ie := 0x00, req := 0 }
        status := .running }
    cgb :=
      { cpu :=
          { a := 0x11, f := 0x80, b := 0x00, c := 0x00, d := 0xFF, e := 0x56, h := 0x00, l := 0x0D,
            sp := 0xFFFE, pc := 0x0100, halted := false, ime := false, imePending := false }
        irq := { ie := 0x00, req := 0 }
        status := .running }
    devices :=
      { tima := 0x00
        tma := 0x00
        tac := 0b000
        dma := { active := false, delay := 0, page := 0x00, index := 0, reg := 0xFF }
        hdma := { active := false, hblank := false, src := 0x0000, dst := 0x8000, remaining := 0,
                  hdma1 := 0x00, hdma2 := 0x00, hdma3 := 0x00, hdma4 := 0x00 }
        lcd := { lcdc := 0x91, statEnables := 0b0000, coincidence := true, mode := .oamScan,
                 scy := 0x00, scx := 0x00, ly := 0x00, lyc := 0x00, bgp := 0xFC, obp0 := 0xFF,
                 obp1 := 0xFF, wy := 0x00, wx := 0x00 }
        svbk := 0b000 } }

/-- The machine after power-on (R571), as a function of the parameters, `RESET_PROFILE`, `DIV_RESET` (R61:
0xABCC by default in DMG mode, a draw in CGB mode), the contents of the memories (draws, R63) and the
external devices. The PPU's position in its line and the pixel pipeline are those of R62. -/
def State.powerOn (p : Params) (r : ResetProfile) (divReset : Word) (m : Mem) (d : Devices) : State :=
  { params := p
    status := (r.forMode p.mode).status
    cpu := (r.forMode p.mode).cpu
    irq := (r.forMode p.mode).irq
    timer := { div := divReset, tima := r.devices.tima, tma := r.devices.tma, tac := r.devices.tac }
    dma := r.devices.dma
    hdma := r.devices.hdma
    lcd := r.devices.lcd
    ppu := { lineTicks := 0, lineSprites := [], windowLatch := false, windowLine := 0x00,
             windowDrawn := false }
    pipe := { fetchState := .tile, fetchX := 0, lineX := 0, pushedX := 0, fifoX := 0, scxFine := 0,
              fetchWindow := false, tileNo := 0x00, tileRow := 0, tileLo := 0x00, tileHi := 0x00,
              fetched := [], spriteLo := [0x00, 0x00, 0x00], spriteHi := [0x00, 0x00, 0x00],
              fifo := [] }
    mem := { m with svbk := r.devices.svbk }
    dev := d
    events := []
    draws := 0
    cycles := 0 }

/-- Memories with nothing listed: every byte and pixel reads as 0 (log 1). -/
def Mem.empty : Mem :=
  { vram := [], oam := [], wram := [], hram := [], svbk := 0, framebuffer := [] }

/-- Devices of which nothing is known (log 5). -/
def Devices.unknown : Devices :=
  { cart := Device.unknown, joypad := Device.unknown, serial := Device.unknown,
    sound := Device.unknown }

/-- The machine right after reset: power-on (R570, R571) of a DMG console with the default parameters and
`RESET_PROFILE`, `DIV_RESET` = 0xABCC (R61), nothing listed in memory and nothing known of the external
devices. -/
def State.reset : State :=
  State.powerOn Params.default ResetProfile.default 0xABCC Mem.empty Devices.unknown

end Sys2Proof.Machine
end

