-- ==== Sys2Proof/Machine/Memory.lean ====
section
/-! DEFINITION. Reading and writing one cell of a memory in its one canonical form (log 1), and of the
known contents of an external device. -/

namespace Sys2Proof.Machine

/-- The value listed for an index or key, if any. -/
def lookupCell {κ α : Type} [DecidableEq κ] : List (κ × α) → κ → Option α
  | [], _ => none
  | (k, v) :: rest, i => if k = i then some v else lookupCell rest i

/-- List a value for an index, in rising order, replacing what was listed for it. -/
def insertCell {α : Type} : List (Nat × α) → Nat → α → List (Nat × α)
  | [], i, v => [(i, v)]
  | (k, w) :: rest, i, v =>
    if i < k then (i, v) :: (k, w) :: rest
    else if i = k then (i, v) :: rest
    else (k, w) :: insertCell rest i v

/-- List nothing for an index. -/
def eraseCell {α : Type} : List (Nat × α) → Nat → List (Nat × α)
  | [], _ => []
  | (k, w) :: rest, i => if k = i then eraseCell rest i else (k, w) :: eraseCell rest i

/-- Read a cell; an unlisted one reads as 0 (log 1). -/
def Cells.get {w : Nat} (m : Cells w) (i : Nat) : BitVec w := (lookupCell m i).getD 0

/-- Write a cell, keeping the canonical form: a cell that holds 0 is not listed. -/
def Cells.set {w : Nat} (m : Cells w) (i : Nat) (v : BitVec w) : Cells w :=
  if v = 0 then eraseCell m i else insertCell m i v

/-- Every index is at least `low` and below `size`, the indices rise, no value is 0. -/
def Cells.wfFrom {w : Nat} (size : Nat) : Nat → Cells w → Bool
  | _, [] => true
  | low, (i, v) :: rest =>
    decide (low ≤ i) && decide (i < size) && v != 0 && Cells.wfFrom size (i + 1) rest

/-- The canonical form of a memory of `size` cells: indices strictly rising and in range, no entry
equal to what an unlisted index reads as. -/
def Cells.wf {w : Nat} (size : Nat) (m : Cells w) : Bool := Cells.wfFrom size 0 m

/-- The canonical form of a byte memory of `size` bytes. -/
def Memory.wf (size : Nat) (m : Memory) : Bool := Cells.wf size m

end Sys2Proof.Machine
end

