-- ==== Sys2Proof/Machine/Operands.lean ====
section
/-! DEFINITION. The register accessors, the register pairs and the bit fields of the operand forms
(10_state.md R30-R35; 30_encoding.md R141-R149). -/

namespace Sys2Proof.Machine

/-- `reg8[r]` (R142). -/
def State.reg8 (s : State) : Reg8 → Byte
  | .b => s.cpu.b
  | .c => s.cpu.c
  | .d => s.cpu.d
  | .e => s.cpu.e
  | .h => s.cpu.h
  | .l => s.cpu.l
  | .a => s.cpu.a

/-- `reg8[r] <- v` (R142). -/
def State.setReg8 (s : State) (r : Reg8) (v : Byte) : State :=
  match r with
  | .b => { s with cpu := { s.cpu with b := v } }
  | .c => { s with cpu := { s.cpu with c := v } }
  | .d => { s with cpu := { s.cpu with d := v } }
  | .e => { s with cpu := { s.cpu with e := v } }
  | .h => { s with cpu := { s.cpu with h := v } }
  | .l => { s with cpu := { s.cpu with l := v } }
  | .a => { s with cpu := { s.cpu with a := v } }

/-- F as read: its low nibble is 0 (R32). -/
def State.flagsByte (s : State) : Byte := s.cpu.f &&& 0xF0

/-- A write of F stores `v AND 0xF0` (R32). -/
def State.setFlagsByte (s : State) (v : Byte) : State :=
  { s with cpu := { s.cpu with f := v &&& 0xF0 } }

/-- The pair whose high byte is `hi` and low byte `lo` (R31). -/
def pair (hi lo : Byte) : Word := hi ++ lo

/-- HL (R31). -/
def State.hl (s : State) : Word := pair s.cpu.h s.cpu.l

/-- `rp[p]` (R143, R31). -/
def State.reg16 (s : State) : Reg16 → Word
  | .bc => pair s.cpu.b s.cpu.c
  | .de => pair s.cpu.d s.cpu.e
  | .hl => s.hl
  | .sp => s.cpu.sp

/-- `rp[p] <- v` (R143, R31): the high byte to the first register, the low byte to the second. -/
def State.setReg16 (s : State) (r : Reg16) (v : Word) : State :=
  match r with
  | .bc => { s with cpu := { s.cpu with b := hiByte v, c := loByte v } }
  | .de => { s with cpu := { s.cpu with d := hiByte v, e := loByte v } }
  | .hl => { s with cpu := { s.cpu with h := hiByte v, l := loByte v } }
  | .sp => { s with cpu := { s.cpu with sp := v } }

/-- `rp2[p]` (R144): AF reads F with its low nibble 0 (R32). -/
def State.stackReg (s : State) : StackReg → Word
  | .bc => s.reg16 .bc
  | .de => s.reg16 .de
  | .hl => s.reg16 .hl
  | .af => pair s.cpu.a s.flagsByte

/-- `rp2[p] <- v` (R144): a write of AF drops the low nibble of F (R32, R236). -/
def State.setStackReg (s : State) (r : StackReg) (v : Word) : State :=
  match r with
  | .bc => s.setReg16 .bc v
  | .de => s.setReg16 .de v
  | .hl => s.setReg16 .hl v
  | .af => (s.setReg8 .a (hiByte v)).setFlagsByte (loByte v)

/-- `PC <- a`. -/
def State.setPc (s : State) (a : Word) : State := { s with cpu := { s.cpu with pc := a } }

/-- `SP <- a`. -/
def State.setSp (s : State) (a : Word) : State := { s with cpu := { s.cpu with sp := a } }

/-- The address `0xFF00 + n` of the high-page forms (R148). -/
def highPage (n : Byte) : Word := 0xFF00 + n.setWidth 16

/-- `sext_16(e)` (R10, R148). -/
def sext (e : Byte) : Word := e.signExtend 16

/-- The operand a 3-bit field names: a register, or (HL) for 6 (R142). -/
def operandOfField (z : BitVec 3) : Operand8 :=
  match z.toNat with
  | 0 => .reg .b
  | 1 => .reg .c
  | 2 => .reg .d
  | 3 => .reg .e
  | 4 => .reg .h
  | 5 => .reg .l
  | 6 => .memHl
  | _ => .reg .a

/-- The rotate or shift a 3-bit field names (R147). -/
def rotOfField (y : BitVec 3) : RotOp :=
  match y.toNat with
  | 0 => .rlc
  | 1 => .rrc
  | 2 => .rl
  | 3 => .rr
  | 4 => .sla
  | 5 => .sra
  | 6 => .swap
  | _ => .srl

end Sys2Proof.Machine
end

