-- ==== Sys2Proof/Machine/Flags.lean ====
section
/-! DEFINITION. The flags (10_state.md R32, R33) and every result and flag computation of
42_load16_stack.md to 45_rotate_shift_bit.md. Sums and differences are computed exactly on naturals
and compared, then narrowed. -/

namespace Sys2Proof.Machine

/-- The four flags of F (R32). -/
structure Flags where
  z : Bool
  n : Bool
  h : Bool
  c : Bool
  deriving DecidableEq, Repr

/-- F bit 7 is Z, bit 6 N, bit 5 H, bit 4 C, the low nibble 0 (R32). -/
def Flags.pack (f : Flags) : Byte :=
  BitVec.ofBool f.z ++ BitVec.ofBool f.n ++ BitVec.ofBool f.h ++ BitVec.ofBool f.c ++ 0#4

/-- The flags of a byte (R32). -/
def Flags.unpack (v : Byte) : Flags :=
  { z := v.getLsbD 7, n := v.getLsbD 6, h := v.getLsbD 5, c := v.getLsbD 4 }

/-- The flags as they stand. -/
def State.flags (s : State) : Flags := Flags.unpack s.cpu.f

/-- Write all four flags. -/
def State.setFlags (s : State) (f : Flags) : State := s.setFlagsByte f.pack

/-- `cond(cc)` (R320, R145). -/
def State.cond (s : State) : Cond → Bool
  | .nz => !s.flags.z
  | .z => s.flags.z
  | .nc => !s.flags.c
  | .c => s.flags.c

/-- The value of a result byte and the flags it leaves. -/
structure ByteResult where
  value : Byte
  flags : Flags
  deriving DecidableEq, Repr

/-- Addition with carry-in (R250-R252): H is the carry out of bit 3, C the carry out of bit 7. -/
def addByte (a v : Byte) (cin : Bool) : ByteResult :=
  let r := a.toNat + v.toNat + cin.toNat
  let value := BitVec.ofNat 8 r
  { value
    flags :=
      { z := value == 0
        n := false
        h := decide (a.toNat % 16 + v.toNat % 16 + cin.toNat > 0x0F)
        c := decide (r > 0xFF) } }

/-- Subtraction with borrow-in (R250, R253, R254): H and C are borrows, compared as unsigned numbers. -/
def subByte (a v : Byte) (cin : Bool) : ByteResult :=
  let value := a - v - BitVec.ofNat 8 cin.toNat
  { value
    flags :=
      { z := value == 0
        n := true
        h := decide (a.toNat % 16 < v.toNat % 16 + cin.toNat)
        c := decide (a.toNat < v.toNat + cin.toNat) } }

/-- A logic result: Z from the result, N and C clear, H as given (R255-R257). -/
def logicByte (value : Byte) (h : Bool) : ByteResult :=
  { value, flags := { z := value == 0, n := false, h, c := false } }

/-- The eight accumulator operations on A and the operand (R251-R258); CP's value is A itself. -/
def aluByte (op : AluOp) (a v : Byte) (c : Bool) : ByteResult :=
  match op with
  | .add => addByte a v false
  | .adc => addByte a v c
  | .sub => subByte a v false
  | .sbc => subByte a v c
  | .and => logicByte (a &&& v) true
  | .xor => logicByte (a ^^^ v) false
  | .or => logicByte (a ||| v) false
  | .cp => { value := a, flags := (subByte a v false).flags }

/-- H of an increment: the low nibble was 0x0F (R259, R260). -/
def incHalf (v : Byte) : Bool := v &&& 0x0F == 0x0F

/-- H of a decrement: the low nibble was 0 (R261, R262). -/
def decHalf (v : Byte) : Bool := v &&& 0x0F == 0x00

/-- DAA (R263); both conditions read A before the adjustment. -/
def daaByte (a : Byte) (f : Flags) : ByteResult :=
  let low := f.h || (!f.n && decide (a.toNat % 16 > 0x09))
  let high := f.c || (!f.n && decide (a.toNat > 0x99))
  let adj : Byte := (if low then 0x06 else 0x00) ||| (if high then 0x60 else 0x00)
  let value := if f.n then a - adj else a + adj
  { value, flags := { z := value == 0, n := f.n, h := false, c := high } }

/-- A rotate or shift of a byte with the carry (R295-R302, R290-R293): the result and the bit that C
receives. -/
def rotByte (op : RotOp) (v : Byte) (c : Bool) : Byte × Bool :=
  match op with
  | .rlc => ((v <<< 1) ||| (v >>> 7), v.getLsbD 7)
  | .rrc => ((v >>> 1) ||| (v <<< 7), v.getLsbD 0)
  | .rl => ((v <<< 1) ||| BitVec.ofNat 8 c.toNat, v.getLsbD 7)
  | .rr => ((v >>> 1) ||| (BitVec.ofNat 8 c.toNat <<< 7), v.getLsbD 0)
  | .sla => (v <<< 1, v.getLsbD 7)
  | .sra => ((v >>> 1) ||| (v &&& 0x80), v.getLsbD 0)
  | .swap => ((v <<< 4) ||| (v >>> 4), false)
  | .srl => (v >>> 1, v.getLsbD 0)

/-- The flags of a 0xCB-page rotate or shift: Z from the result, N and H clear, C the bit shifted out
(R295-R302). -/
def rotFlags (r : Byte) (out : Bool) : Flags := { z := r == 0, n := false, h := false, c := out }

/-- RES b (R304). -/
def resBit (b : BitVec 3) (v : Byte) : Byte := v &&& ~~~(1#8 <<< b.toNat)

/-- SET b (R305). -/
def setBit (b : BitVec 3) (v : Byte) : Byte := v ||| (1#8 <<< b.toNat)

/-- The value and flags of a 16-bit addition. -/
structure WordResult where
  value : Word
  flags : Flags
  deriving DecidableEq, Repr

/-- ADD HL,rr (R282): H from bit 11, C from bit 15, Z kept, N clear. -/
def addWord (hl v : Word) (z : Bool) : WordResult :=
  { value := hl + v
    flags :=
      { z
        n := false
        h := decide (hl.toNat % 4096 + v.toNat % 4096 > 0x0FFF)
        c := decide (hl.toNat + v.toNat > 0xFFFF) } }

/-- SP plus the signed immediate (R233, R283): H and C from the low byte of SP and the unsigned
immediate, Z and N clear. -/
def addSp (sp : Word) (e : Byte) : WordResult :=
  { value := sp + sext e
    flags :=
      { z := false
        n := false
        h := decide (sp.toNat % 16 + e.toNat % 16 > 0x0F)
        c := decide (sp.toNat % 256 + e.toNat > 0xFF) } }

end Sys2Proof.Machine
end

