-- ==== Sys2Proof/Machine/Pace.lean ====
section
/-! DEFINITION. `CYCLE_TABLE` (40_execution_engine.md R188, R189): where an instruction's internal cycles
stand among its accesses. -/

namespace Sys2Proof.Machine

/-- The default of `CYCLE_TABLE` (R189): the internal cycles of the `Cycles` lines of 41_load8.md to
47_misc_system.md. An opcode not named here has none. -/
def defaultLine : Opcode → CycleLine
  | .cb _ => {}
  | .main op =>
    if op ∈ [0x03, 0x13, 0x23, 0x33, 0x0B, 0x1B, 0x2B, 0x3B, 0x09, 0x19, 0x29, 0x39, 0xF8, 0xF9] then
      { taken := [1] }
    else if op = 0xE8 then { taken := [2] }
    else if op ∈ [0x18, 0x20, 0x28, 0x30, 0x38, 0xC3, 0xC2, 0xCA, 0xD2, 0xDA] then { taken := [1] }
    else if op ∈ [0xC5, 0xD5, 0xE5, 0xF5, 0xCD, 0xC4, 0xCC, 0xD4, 0xDC,
        0xC7, 0xCF, 0xD7, 0xDF, 0xE7, 0xEF, 0xF7, 0xFF] then { taken := [1, 0, 0] }
    else if op = 0xC9 ∨ op = 0xD9 then { taken := [0, 0, 1] }
    else if op ∈ [0xC0, 0xC8, 0xD0, 0xD8] then { taken := [1, 0, 1], notTaken := 1 }
    else {}

/-- The line of an opcode in `CYCLE_TABLE`: the one listed, or the default's. -/
def State.cycleLine (s : State) (o : Opcode) : CycleLine :=
  (lookupCell s.params.cycleTable o).getD (defaultLine o)

/-- The internal cycles of an opcode's effect, for a conditional opcode where the condition holds. -/
def State.gaps (s : State) (o : Opcode) : List Nat := (s.cycleLine o).taken

end Sys2Proof.Machine
end

