-- ==== Sys2Proof/Machine/Bus.lean ====
section
/-! DEFINITION. The outcome of a part of a step, and reads through the memory bus (20_memory.md
R80-R90, R100). -/

namespace Sys2Proof.Machine

/-- What a part of a step answers: it went on with a value, or the machine stopped in this state, whose
`status` says why, and nothing after it happens (60_exceptions.md R411, R412). -/
inductive Res (α : Type) where
  | ok (value : α) (s : State)
  | stop (s : State)
  deriving DecidableEq, Repr

/-- Do `f` after `r`, unless `r` stopped. -/
def Res.andThen {α β : Type} (r : Res α) (f : α → State → Res β) : Res β :=
  match r with
  | .ok a s => f a s
  | .stop s => .stop s

/-- Do `n` times. -/
def Res.repeat (f : State → Res Unit) : Nat → State → Res Unit
  | 0, s => .ok () s
  | n + 1, s => (f s).andThen fun _ s => Res.repeat f n s

/-- `raise Fault(info)` (R411). -/
def raise {α : Type} (info : Fault) (s : State) : Res α := .stop { s with status := .faulted info }

/-- `refuse(reason)` (R412). -/
def refuse {α : Type} (reason : Refusal) (s : State) : Res α :=
  .stop { s with status := .refused reason }

/-- `warn(addr)` (R88, R413): recorded, nothing else changes. -/
def warn (a : Word) (s : State) : State := { s with events := s.events ++ [.warning a] }

/-- `request(k)` (R403). -/
def request (k : Nat) (s : State) : State :=
  { s with irq := { s.irq with req := s.irq.req ||| (1#5 <<< k) } }

/-- The registers of the I/O block (R87), `cgbVideo` for 0xFF4D, 0xFF4F and 0xFF68-0xFF6B. -/
inductive IoReg where
  | joypad | serial | div | tima | tma | tac | ifr | sound
  | lcdc | stat | scy | scx | ly | lyc | dma | bgp | obp0 | obp1 | wy | wx
  | cgbVideo | hdma1 | hdma2 | hdma3 | hdma4 | hdma5 | svbk
  | unhandled
  deriving DecidableEq, Repr

/-- The handled registers of both modes, by offset in the I/O block (R87; sound is a range). -/
def ioBoth : List (Nat × IoReg) :=
  [(0x00, .joypad), (0x01, .serial), (0x02, .serial), (0x04, .div), (0x05, .tima), (0x06, .tma),
   (0x07, .tac), (0x0F, .ifr), (0x40, .lcdc), (0x41, .stat), (0x42, .scy), (0x43, .scx),
   (0x44, .ly), (0x45, .lyc), (0x46, .dma), (0x47, .bgp), (0x48, .obp0), (0x49, .obp1),
   (0x4A, .wy), (0x4B, .wx)]

/-- The registers handled in CGB mode only (R87). -/
def ioCgb : List (Nat × IoReg) :=
  [(0x4D, .cgbVideo), (0x4F, .cgbVideo), (0x51, .hdma1), (0x52, .hdma2), (0x53, .hdma3),
   (0x54, .hdma4), (0x55, .hdma5), (0x68, .cgbVideo), (0x69, .cgbVideo), (0x6A, .cgbVideo),
   (0x6B, .cgbVideo), (0x70, .svbk)]

/-- The register at an offset of the I/O block; every other one is unhandled (R87, R88). -/
def ioReg (p : Params) (off : Nat) : IoReg :=
  if 0x10 ≤ off ∧ off ≤ 0x3F then .sound
  else
    match lookupCell ioBoth off with
    | some r => r
    | none =>
      match p.mode, lookupCell ioCgb off with
      | .cgb, some .cgbVideo =>
        match p.cgbVideoIo with
        | .refuse => .cgbVideo
        | .benign => .unhandled
      | .cgb, some r => r
      | _, _ => .unhandled

/-- The owner of a bus address (R80), with the offset of a memory cell. -/
inductive Location where
  | cart
  | vram (i : Nat)
  | wram (i : Nat)
  | zero
  | oam (i : Nat)
  | io (r : IoReg)
  | hram (i : Nat)
  | ie
  deriving DecidableEq, Repr

/-- The work-RAM bank at 0xD000-0xDFFF (R83). -/
def wramBank (p : Params) (svbk : BitVec 3) : Nat :=
  match p.mode with
  | .dmg => 1
  | .cgb => if svbk = 0 then 1 else svbk.toNat

/-- The dispatch by address range (R80); `zero` is the echo and the unmapped range (R84, R86). -/
def locate (p : Params) (svbk : BitVec 3) (address : Word) : Location :=
  let a := address.toNat
  if a < 0x8000 then .cart
  else if a < 0xA000 then .vram (a - 0x8000)
  else if a < 0xC000 then .cart
  else if a < 0xD000 then .wram (a - 0xC000)
  else if a < 0xE000 then .wram (wramBank p svbk * 0x1000 + (a - 0xD000))
  else if a < 0xFE00 then .zero
  else if a < 0xFEA0 then .oam (a - 0xFE00)
  else if a < 0xFF00 then .zero
  else if a < 0xFF80 then .io (ioReg p (a - 0xFF00))
  else if a < 0xFFFF then .hram (a - 0xFF80)
  else .ie

/-- The owner of an address as the machine stands. -/
def State.locate (s : State) (a : Word) : Location := Machine.locate s.params s.mem.svbk a

/-- `Cart.read(s, a)` and its likes (R81, R100): what a device answers; it changes no state. -/
def Device.read (id : DeviceId) (d : Device) (a : Word) : Byte :=
  match lookupCell d.image a.toNat, d.fill with
  | some v, _ => v
  | none, some v => v
  | none, none => Config.deviceRead id d.history a

/-- `Cart.write(s, a, v)` and its likes (R81, R100): the device's state after a write. -/
def Device.write (d : Device) (a : Word) (v : Byte) : Device :=
  { d with history := d.history ++ [.write a v] }

/-- The number of a PPU mode in STAT bits 1-0 (R492). -/
def PpuMode.number : PpuMode → Byte
  | .hblank => 0
  | .vblank => 1
  | .oamScan => 2
  | .transfer => 3

/-- STAT as read (R492). -/
def statByte (l : Lcd) : Byte :=
  0x80 ||| (l.statEnables.setWidth 8 <<< 3) |||
    ((BitVec.ofBool l.coincidence).setWidth 8 <<< 2) ||| l.mode.number

/-- HDMA5 as read (R477). -/
def hdma5Byte (h : Hdma) : Byte :=
  (if h.active then 0x00 else 0x80) ||| ((BitVec.ofNat 8 (h.remaining / 16) - 1) &&& 0x7F)

/-- What a read of an I/O register returns (R87, R88). -/
def ioValue (s : State) (a : Word) : IoReg → Byte
  | .joypad => Device.read .joypad s.dev.joypad a
  | .serial => Device.read .serial s.dev.serial a
  | .sound => Device.read .sound s.dev.sound a
  | .div => hiByte s.timer.div
  | .tima => s.timer.tima
  | .tma => s.timer.tma
  | .tac => 0xF8 ||| s.timer.tac.setWidth 8
  | .ifr => 0xE0 ||| s.irq.req.setWidth 8
  | .lcdc => s.lcd.lcdc
  | .stat => statByte s.lcd
  | .scy => s.lcd.scy
  | .scx => s.lcd.scx
  | .ly => s.lcd.ly
  | .lyc => s.lcd.lyc
  | .dma => s.dma.reg
  | .bgp => s.lcd.bgp
  | .obp0 => s.lcd.obp0
  | .obp1 => s.lcd.obp1
  | .wy => s.lcd.wy
  | .wx => s.lcd.wx
  | .hdma1 => 0xFF
  | .hdma2 => 0xFF
  | .hdma3 => 0xFF
  | .hdma4 => 0xFF
  | .hdma5 => hdma5Byte s.hdma
  | .svbk => 0xF8 ||| s.mem.svbk.setWidth 8
  | .cgbVideo => 0x00
  | .unhandled => 0x00

/-- The byte a location holds, read at an address (R80). -/
def State.byteAt (s : State) (a : Word) : Location → Byte
  | .cart => Device.read .cart s.dev.cart a
  | .vram i => Cells.get s.mem.vram i
  | .wram i => Cells.get s.mem.wram i
  | .zero => 0x00
  | .oam i => Cells.get s.mem.oam i
  | .io r => ioValue s a r
  | .hram i => Cells.get s.mem.hram i
  | .ie => s.irq.ie

/-- The byte a read of an address returns where it returns one (R80). -/
def State.peek (s : State) (a : Word) : Byte := s.byteAt a (s.locate a)

/-- `MemRead(a, 1)` (R12, R80): a colour-mode video register refuses (R87), an unhandled register
records a warning (R88), every other read only returns its byte (R94). -/
def busRead (a : Word) (s : State) : Res Byte :=
  match s.locate a with
  | .io .cgbVideo => refuse (.refusedCgbVideo a) s
  | .io .unhandled => .ok (s.peek a) (warn a s)
  | _ => .ok (s.peek a) s

end Sys2Proof.Machine
end

