-- ==== Sys2Proof/Machine/DmaUnits.lean ====
section
/-! DEFINITION. OAM DMA and HDMA (62_dma_hdma.md). -/

namespace Sys2Proof.Machine

/-- A write of 0xFF46 (R460, R463). -/
def startOamDma (v : Byte) (s : State) : State :=
  { s with dma := { active := true, delay := 2, page := v, index := 0, reg := v } }

/-- `dma_step()` (R462): one byte per machine cycle after the start delay. -/
def dmaStep (s : State) : Res Unit :=
  if !s.dma.active then .ok () s
  else if s.dma.delay > 0 then .ok () { s with dma := { s.dma with delay := s.dma.delay - 1 } }
  else
    (busRead (BitVec.ofNat 16 (s.dma.page.toNat * 0x100 + s.dma.index)) s).andThen fun v s =>
      if s.dma.index < 160 then
        let next := s.dma.index + 1
        .ok () { s with
          mem := { s.mem with oam := Cells.set s.mem.oam s.dma.index v }
          dma := { s.dma with index := next, active := decide (next ≠ 160) } }
      else raise (.fatalConfig (.oamOffset s.dma.index)) s

/-- `hdma_copy_step()` (R478). -/
def hdmaCopyStep (s : State) : Res Unit :=
  (busRead s.hdma.src s).andThen fun v s =>
    if 0x8000 ≤ s.hdma.dst.toNat ∧ s.hdma.dst.toNat ≤ 0x9FFF then
      let left := s.hdma.remaining - 1
      .ok () { s with
        mem := { s.mem with vram := Cells.set s.mem.vram (s.hdma.dst.toNat - 0x8000) v }
        hdma := { s.hdma with
          src := s.hdma.src + 1
          dst := 0x8000 ||| ((s.hdma.dst + 1) &&& 0x1FFF)
          remaining := left
          active := s.hdma.active && decide (left ≠ 0) } }
    else raise (.fatalConfig (.vramAddress s.hdma.dst)) s

/-- `general_copy()` (R473): the full length, at once. -/
def generalCopy (s : State) : Res Unit := Res.repeat hdmaCopyStep s.hdma.remaining s

/-- `hdma_hblank_block()` (R475): 16 bytes at an entry into mode 0. HDMA exists in CGB mode only, and in
DMG mode its state never changes (R470). -/
def hdmaHblankBlock (s : State) : Res Unit :=
  if s.params.mode == .cgb && s.hdma.active && s.hdma.hblank then Res.repeat hdmaCopyStep 16 s else .ok () s

/-- The pointers and the length a start latches (R472). -/
def latchHdma (v : Byte) (h : Hdma) : Hdma :=
  { h with
    src := pair h.hdma1 h.hdma2 &&& 0xFFF0
    dst := 0x8000 ||| (pair h.hdma3 h.hdma4 &&& 0x1FF0)
    remaining := ((v &&& 0x7F).toNat + 1) * 16 }

/-- `write_hdma5(v)` (R472, R476): abort, a general copy, or the start of an HBlank transfer. -/
def writeHdma5 (v : Byte) (s : State) : Res Unit :=
  if s.hdma.active && !v.getLsbD 7 then .ok () { s with hdma := { s.hdma with active := false } }
  else if !v.getLsbD 7 then
    generalCopy { s with hdma := { latchHdma v s.hdma with hblank := false } }
  else .ok () { s with hdma := { latchHdma v s.hdma with hblank := true, active := true } }

/-- What a write of an I/O register does (R87, R88). -/
def ioWrite (a : Word) (v : Byte) (s : State) : IoReg → Res Unit
  | .joypad => .ok () { s with dev := { s.dev with joypad := Device.write s.dev.joypad a v } }
  | .serial => .ok () { s with dev := { s.dev with serial := Device.write s.dev.serial a v } }
  | .sound => .ok () { s with dev := { s.dev with sound := Device.write s.dev.sound a v } }
  | .div => .ok () { s with timer := { s.timer with div := 0 } }
  | .tima => .ok () { s with timer := { s.timer with tima := v } }
  | .tma => .ok () { s with timer := { s.timer with tma := v } }
  | .tac => .ok () { s with timer := { s.timer with tac := v.setWidth 3 } }
  | .ifr => .ok () { s with irq := { s.irq with req := v.setWidth 5 } }
  | .lcdc => .ok () { s with lcd := { s.lcd with lcdc := v } }
  | .stat => .ok () { s with lcd := { s.lcd with statEnables := v.extractLsb' 3 4 } }
  | .scy => .ok () { s with lcd := { s.lcd with scy := v } }
  | .scx => .ok () { s with lcd := { s.lcd with scx := v } }
  | .ly => .ok () s
  | .lyc => .ok () { s with lcd := { s.lcd with lyc := v } }
  | .dma => .ok () (startOamDma v s)
  | .bgp => .ok () { s with lcd := { s.lcd with bgp := v } }
  | .obp0 => .ok () { s with lcd := { s.lcd with obp0 := v } }
  | .obp1 => .ok () { s with lcd := { s.lcd with obp1 := v } }
  | .wy => .ok () { s with lcd := { s.lcd with wy := v } }
  | .wx => .ok () { s with lcd := { s.lcd with wx := v } }
  | .hdma1 => .ok () { s with hdma := { s.hdma with hdma1 := v } }
  | .hdma2 => .ok () { s with hdma := { s.hdma with hdma2 := v } }
  | .hdma3 => .ok () { s with hdma := { s.hdma with hdma3 := v } }
  | .hdma4 => .ok () { s with hdma := { s.hdma with hdma4 := v } }
  | .hdma5 => writeHdma5 v s
  | .svbk => .ok () { s with mem := { s.mem with svbk := v.setWidth 3 } }
  | .cgbVideo => refuse (.refusedCgbVideo a) s
  | .unhandled => .ok () (warn a s)

/-- `MemWrite(a, 1, v)` (R12, R80). -/
def busWrite (a : Word) (v : Byte) (s : State) : Res Unit :=
  match s.locate a with
  | .cart => .ok () { s with dev := { s.dev with cart := Device.write s.dev.cart a v } }
  | .vram i => .ok () { s with mem := { s.mem with vram := Cells.set s.mem.vram i v } }
  | .wram i => .ok () { s with mem := { s.mem with wram := Cells.set s.mem.wram i v } }
  | .zero => .ok () s
  | .oam i => .ok () { s with mem := { s.mem with oam := Cells.set s.mem.oam i v } }
  | .io r => ioWrite a v s r
  | .hram i => .ok () { s with mem := { s.mem with hram := Cells.set s.mem.hram i v } }
  | .ie => .ok () { s with irq := { s.irq with ie := v } }

end Sys2Proof.Machine
end

