-- ==== Sys2Proof/Machine/PixelPipeline.lean ====
section
/-! DEFINITION. The pixel fetcher and FIFO (64_pixel_pipeline.md R530-R547). -/

namespace Sys2Proof.Machine

/-- `start_transfer()` (R531). -/
def startTransfer (s : State) : State :=
  { s with
    pipe := { s.pipe with
      fetchState := .tile, fetchX := 0, fifoX := 0, lineX := 0, pushedX := 0
      scxFine := s.lcd.scx.setWidth 3, fetchWindow := false, fetched := [], fifo := [] }
    ppu := { s.ppu with windowDrawn := false } }

/-- Video-RAM offset of the tile map an LCDC bit selects: 0x9C00 or 0x9800 (R533, R534). -/
def tileMapOffset (high : Bool) : Nat := if high then 0x1C00 else 0x1800

/-- The window is selected at this Tile step (R534). -/
def windowSelected (s : State) : Bool :=
  s.ppu.windowLatch && s.lcd.lcdc.getLsbD 5 && decide (s.lcd.wx.toNat ≤ 166) &&
    decide (s.lcd.wx.toNat ≤ s.pipe.fetchX + 7)

/-- The background tile (R533). -/
def fetchBackground (s : State) : State :=
  let col := ((s.pipe.fetchX + s.lcd.scx.toNat) % 256) / 8
  let y := s.lcd.ly + s.lcd.scy
  let row := y.toNat / 8
  { s with pipe := { s.pipe with
      tileNo := Cells.get s.mem.vram (tileMapOffset (s.lcd.lcdc.getLsbD 3) + row * 32 + col)
      tileRow := y.setWidth 3
      fetchWindow := false } }

/-- The window tile (R534). -/
def fetchWindowTile (s : State) : State :=
  let col := ((s.pipe.fetchX + 7 - s.lcd.wx.toNat) / 8) % 32
  let row := s.ppu.windowLine.toNat / 8
  { s with
    pipe := { s.pipe with
      tileNo := Cells.get s.mem.vram (tileMapOffset (s.lcd.lcdc.getLsbD 6) + row * 32 + col)
      tileRow := s.ppu.windowLine.setWidth 3
      fetchWindow := true }
    ppu := { s.ppu with windowDrawn := true } }

/-- `sp_x(s)` (R535): the line coordinate of a sprite's left pixel. -/
def spriteLeft (p : Pipeline) (sp : Sprite) : Int := sp.x.toNat - 8 + p.scxFine.toNat

/-- A sprite's span meets the fetch's span (R535). -/
def spriteOverlaps (p : Pipeline) (sp : Sprite) : Bool :=
  decide (spriteLeft p sp + 7 ≥ p.fetchX) && decide (spriteLeft p sp ≤ p.fetchX + 7)

/-- The sprites of this fetch: the first three overlapping ones of the line's list (R535). -/
def collectSprites (s : State) : List Sprite :=
  if s.lcd.lcdc.getLsbD 1 then (s.ppu.lineSprites.filter (spriteOverlaps s.pipe)).take 3 else []

/-- The Tile step (R532-R535). -/
def tileStep (s : State) : State :=
  let t := if windowSelected s then fetchWindowTile s else fetchBackground s
  { t with pipe := { t.pipe with
      fetched := collectSprites s
      fetchX := s.pipe.fetchX + 8
      fetchState := .data0 } }

/-- The address of byte `b` of the tile row (R536). -/
def tileDataAddress (s : State) (b : Nat) : Word :=
  let base : Word :=
    if s.lcd.lcdc.getLsbD 4 then 0x8000 + s.pipe.tileNo.setWidth 16 * 16
    else 0x9000 + s.pipe.tileNo.signExtend 16 * 16
  base + BitVec.ofNat 16 (s.pipe.tileRow.toNat * 2 + b)

/-- Byte `b` of the tile row (R536). -/
def tileDataByte (s : State) (b : Nat) : Byte :=
  Cells.get s.mem.vram ((tileDataAddress s b).toNat - 0x8000)

/-- The height of objects (R491, R507). -/
def objectHeight (l : Lcd) : Nat := if l.lcdc.getLsbD 2 then 16 else 8

/-- Byte `b` of a sprite's row (R537). -/
def spriteDataByte (s : State) (b : Nat) (sp : Sprite) : Byte :=
  let h := objectHeight s.lcd
  let row := (s.lcd.ly + 16 - sp.y) &&& 15
  let row := if sp.attr.getLsbD 6 then (BitVec.ofNat 8 (h - 1) - row) &&& 15 else row
  let t := if h = 16 then sp.tile &&& 0xFE else sp.tile
  Cells.get s.mem.vram ((t.toNat * 16 + row.toNat * 2 + b) % 0x2000)

/-- Overwrite the first bytes of a staging buffer. -/
def overlay (new old : List Byte) : List Byte := new ++ old.drop new.length

/-- The Data0 step (R532, R536, R537). -/
def data0Step (s : State) : State :=
  { s with pipe := { s.pipe with
      tileLo := tileDataByte s 0
      spriteLo := overlay (s.pipe.fetched.map (spriteDataByte s 0)) s.pipe.spriteLo
      fetchState := .data1 } }

/-- The Data1 step (R532, R536, R537). -/
def data1Step (s : State) : State :=
  { s with pipe := { s.pipe with
      tileHi := tileDataByte s 1
      spriteHi := overlay (s.pipe.fetched.map (spriteDataByte s 1)) s.pipe.spriteHi
      fetchState := .idle } }

/-- A pixel's colour index from its two bitplane bits (R514). -/
def colourIndex (lo hi : Byte) (bit : Nat) : BitVec 2 :=
  BitVec.ofBool (hi.getLsbD bit) ++ BitVec.ofBool (lo.getLsbD bit)

/-- The shade a palette gives a colour index (R496). -/
def paletteShade (palette : Byte) (c : BitVec 2) : BitVec 2 := (palette >>> (2 * c.toNat)).setWidth 2

/-- `SHADE_ARGB[shade]` (R542). -/
def shadePixel (sh : Shades) (shade : BitVec 2) : Pixel :=
  match shade.toNat with
  | 0 => sh.shade0
  | 1 => sh.shade1
  | 2 => sh.shade2
  | _ => sh.shade3

/-- The background's colour index at column `i` of the fetched tile; 0 with the background off (R540,
R541). -/
def backgroundIndex (s : State) (i : Nat) : BitVec 2 :=
  if s.lcd.lcdc.getLsbD 0 then colourIndex s.pipe.tileLo s.pipe.tileHi (7 - i) else 0

/-- The background's pixel value (R540, R541). -/
def backgroundPixel (s : State) (i : Nat) : Pixel :=
  if s.lcd.lcdc.getLsbD 0 then
    shadePixel s.params.shades (paletteShade s.lcd.bgp (backgroundIndex s i))
  else s.params.shades.shade0

/-- The sprites' part of `resolve(p, i)` (R540): the first opaque sprite in list order decides. `sprites`
lists the fetched sprites with their two bitplane bytes. -/
def resolveSprites (s : State) (p : Nat) (bg : BitVec 2) (under : Pixel) :
    List (Sprite × Byte × Byte) → Pixel
  | [] => under
  | (sp, lo, hi) :: rest =>
    let off := (p : Int) - spriteLeft s.pipe sp
    if 0 ≤ off ∧ off ≤ 7 then
      let si := colourIndex lo hi (if sp.attr.getLsbD 5 then off.toNat else 7 - off.toNat)
      if si ≠ 0 then
        if !sp.attr.getLsbD 7 || bg == 0 then
          let pal := if sp.attr.getLsbD 4 then s.lcd.obp1 else s.lcd.obp0
          shadePixel s.params.shades (paletteShade pal si)
        else under
      else resolveSprites s p bg under rest
    else resolveSprites s p bg under rest

/-- `resolve(p, i)` (R540). -/
def resolvePixel (s : State) (p i : Nat) : Pixel :=
  resolveSprites s p (backgroundIndex s i) (backgroundPixel s i)
    (s.pipe.fetched.zip (s.pipe.spriteLo.zip s.pipe.spriteHi))

/-- The Push step (R539): it waits while the FIFO holds more than 8 pixels. -/
def pushStep (s : State) : State :=
  if s.pipe.fifo.length > 8 then s
  else
    { s with pipe := { s.pipe with
        fifo := s.pipe.fifo ++ (List.range 8).map fun i => resolvePixel s (s.pipe.fifoX + i) i
        fifoX := s.pipe.fifoX + 8
        fetchState := .tile } }

/-- `fetch_step()` (R532). -/
def fetchStep (s : State) : State :=
  match s.pipe.fetchState with
  | .tile => tileStep s
  | .data0 => data0Step s
  | .data1 => data1Step s
  | .idle => { s with pipe := { s.pipe with fetchState := .push } }
  | .push => pushStep s

/-- A pixel written to the framebuffer (R543): the FIFO's in DMG mode, a draw in CGB mode (R516). -/
def drawPixel (px : Pixel) (s : State) : Res Unit :=
  let line := s.lcd.ly.toNat
  let column := s.pipe.pushedX
  if line < 144 ∧ column < 160 then
    let px := match s.params.mode with
      | .dmg => px
      | .cgb => Config.cgbPixel s.draws
    .ok () { s with
      mem := { s.mem with framebuffer := Cells.set s.mem.framebuffer (line * 160 + column) px }
      draws := match s.params.mode with
        | .dmg => s.draws
        | .cgb => s.draws + 1
      pipe := { s.pipe with pushedX := column + 1 } }
  else raise (.fatalConfig (.framebufferOffset line column)) s

/-- `pop_step()` (R543). -/
def popStep (s : State) : Res Unit :=
  match s.pipe.fifo with
  | [] => .ok () s
  | px :: rest =>
    if s.pipe.fifo.length > 8 then
      let s := { s with pipe := { s.pipe with fifo := rest } }
      (if s.pipe.lineX ≥ s.pipe.scxFine.toNat then drawPixel px s else .ok () s).andThen
        fun _ s => .ok () { s with pipe := { s.pipe with lineX := s.pipe.lineX + 1 } }
    else .ok () s

/-- `pipeline_tick()` (R530). -/
def pipelineTick (s : State) : Res Unit :=
  popStep (if s.ppu.lineTicks % 2 = 0 then fetchStep s else s)

end Sys2Proof.Machine
end

