-- ==== Sys2Proof/Machine/PpuUnit.lean ====
section
/-! DEFINITION. The PPU's mode state machine (63_ppu_modes.md R498-R512). -/

namespace Sys2Proof.Machine

/-- OAM entry `i` with its index (R513). -/
def oamEntry (s : State) (i : Nat) : Sprite :=
  { index := i
    y := Cells.get s.mem.oam (4 * i)
    x := Cells.get s.mem.oam (4 * i + 1)
    tile := Cells.get s.mem.oam (4 * i + 2)
    attr := Cells.get s.mem.oam (4 * i + 3) }

/-- An entry is on the line: `Y <= LY + 16 < Y + h` (R507). -/
def spriteOnLine (l : Lcd) (sp : Sprite) : Bool :=
  decide (sp.y.toNat ≤ l.ly.toNat + 16) && decide (l.ly.toNat + 16 < sp.y.toNat + objectHeight l)

/-- Insert a sprite before the first of greater X (R508). -/
def insertByX (sp : Sprite) : List Sprite → List Sprite
  | [] => [sp]
  | t :: rest => if sp.x.toNat < t.x.toNat then sp :: t :: rest else t :: insertByX sp rest

/-- The stable insertion sort by ascending X of a list in index order (R508). -/
def sortByX (sprites : List Sprite) : List Sprite :=
  sprites.foldl (fun acc sp => insertByX sp acc) []

/-- The line's sprite list (R507, R508). -/
def selectSprites (s : State) : List Sprite :=
  let kept := (((List.range 40).map (oamEntry s)).filter (spriteOnLine s.lcd)).take 10
  match s.params.mode with
  | .dmg => sortByX kept
  | .cgb => kept

/-- `oam_scan()` (R501, R507-R509): the sprite list and the window latch. -/
def oamScan (s : State) : State :=
  { s with ppu := { s.ppu with
      lineSprites := selectSprites s
      windowLatch := s.ppu.windowLatch || (s.lcd.lcdc.getLsbD 5 && s.lcd.ly == s.lcd.wy) } }

/-- `update_coincidence()` (R504). -/
def updateCoincidence (s : State) : State :=
  let c := s.lcd.ly == s.lcd.lyc
  let s' := if c && !s.lcd.coincidence && s.lcd.statEnables.getLsbD 3 then request 1 s else s
  { s' with lcd := { s'.lcd with coincidence := c } }

/-- The STAT request of a mode entry, when STAT bit `bit` (3 to 5) is set (R500). -/
def statRequest (bit : Nat) (s : State) : State :=
  if s.lcd.statEnables.getLsbD (bit - 3) then request 1 s else s

/-- `frame_complete()` (R511). -/
def frameComplete (s : State) : State := { s with events := s.events ++ [.frameComplete] }

/-- What a mode's entry does before the coincidence is evaluated (R500). -/
def modeEntry (m : PpuMode) (s : State) : Res Unit :=
  match m with
  | .hblank => hdmaHblankBlock (statRequest 3 s)
  | .vblank =>
    let s := statRequest 4 (request 0 s)
    .ok () (frameComplete { s with ppu := { s.ppu with windowLatch := false, windowLine := 0 } })
  | .oamScan => .ok () (statRequest 5 s)
  | .transfer => .ok () (startTransfer s)

/-- `enter_mode(m)` (R500). -/
def enterMode (m : PpuMode) (s : State) : Res Unit :=
  (modeEntry m { s with lcd := { s.lcd with mode := m } }).andThen
    fun _ s => .ok () (updateCoincidence s)

/-- `end_transfer()` (R545). -/
def endTransfer (s : State) : Res Unit :=
  enterMode .hblank { s with pipe := { s.pipe with fifo := [] } }

/-- `end_line()` (R503). -/
def endLine (s : State) : Res Unit :=
  let ly := s.lcd.ly + 1
  let s := { s with
    ppu := { s.ppu with
      lineTicks := 0
      windowLine := if s.ppu.windowDrawn then s.ppu.windowLine + 1 else s.ppu.windowLine }
    lcd := { s.lcd with ly } }
  if ly = 144 then enterMode .vblank s else enterMode .oamScan s

/-- `end_vblank_line()` (R505). -/
def endVblankLine (s : State) : Res Unit :=
  let ly := s.lcd.ly + 1
  let s := { s with ppu := { s.ppu with lineTicks := 0 } }
  if ly = 154 then enterMode .oamScan { s with lcd := { s.lcd with ly := 0 } }
  else .ok () (updateCoincidence { s with lcd := { s.lcd with ly } })

/-- One tick in mode 2 (R501). -/
def oamScanTick (s : State) : Res Unit :=
  let s := if s.ppu.lineTicks = 1 then oamScan s else s
  if s.ppu.lineTicks = 80 then enterMode .transfer s else .ok () s

/-- One tick in mode 3 (R502). -/
def transferTick (s : State) : Res Unit :=
  (pipelineTick s).andThen fun _ s => if s.pipe.pushedX = 160 then endTransfer s else .ok () s

/-- `ppu_tick()` (R498, R512). -/
def ppuTick (s : State) : Res Unit :=
  if s.params.lcdOffStopsPpu && !s.lcd.lcdc.getLsbD 7 then .ok () s
  else
    let s := { s with ppu := { s.ppu with lineTicks := s.ppu.lineTicks + 1 } }
    match s.lcd.mode with
    | .oamScan => oamScanTick s
    | .transfer => transferTick s
    | .hblank => if s.ppu.lineTicks = 456 then endLine s else .ok () s
    | .vblank => if s.ppu.lineTicks = 456 then endVblankLine s else .ok () s

end Sys2Proof.Machine
end

