-- ==== Sys2Proof/Machine/TimerUnit.lean ====
section
/-! DEFINITION. The divider and timer (61_timer.md). -/

namespace Sys2Proof.Machine

/-- `SELECT[TAC AND 3]` (R442): the divider bit that is watched. -/
def timerBit (tac : BitVec 3) : Nat :=
  match tac.toNat % 4 with
  | 0 => 9
  | 1 => 3
  | 2 => 5
  | _ => 7

/-- The watched bit fell in the step from `prev` to `next` while the timer is enabled (R441). -/
def timerFalls (tac : BitVec 3) (prev next : Word) : Bool :=
  tac.getLsbD 2 && prev.getLsbD (timerBit tac) && !next.getLsbD (timerBit tac)

/-- `timer_tick()` (R441, R443). -/
def timerTick (s : State) : State :=
  let prev := s.timer.div
  let next := prev + 1
  let s := { s with timer := { s.timer with div := next } }
  if timerFalls s.timer.tac prev next then
    if s.timer.tima = 0xFF then
      request 2 { s with timer := { s.timer with tima := s.timer.tma } }
    else { s with timer := { s.timer with tima := s.timer.tima + 1 } }
  else s

end Sys2Proof.Machine
end

