-- ==== Sys2Proof/Machine/Ops.lean ====
section
/-! DEFINITION. The scheduler's machine cycle (40_execution_engine.md R184), the timed accesses every
instruction is made of (00_scope.md R13), the internal cycles between them (R185, R189), the stack, taking an
interrupt and returning from one (60_exceptions.md R406, R409). -/

namespace Sys2Proof.Machine

/-- One tick: the timer, then the PPU (R184, D51). -/
def tick (s : State) : Res Unit := ppuTick (timerTick s)

/-- `cycle()` (R184): four ticks, then one DMA step; the ghost count moves first (R591, log 7). -/
def cycle (s : State) : Res Unit :=
  (Res.repeat tick 4 { s with cycles := s.cycles + 1 }).andThen fun _ s => dmaStep s

/-- `rd(a)` (R13): the access, then its machine cycle. -/
def rd (a : Word) (s : State) : Res Byte :=
  (busRead a s).andThen fun v s => (cycle s).andThen fun _ s => .ok v s

/-- `wr(a, v)` (R13). -/
def wr (a : Word) (v : Byte) (s : State) : Res Unit :=
  (busWrite a v s).andThen fun _ s => cycle s

/-- `idle()` (R13, R185). -/
def idle (s : State) : Res Unit := cycle s

/-- `imm8()` (R13): PC moves after the byte's cycle. -/
def imm8 (s : State) : Res Byte :=
  (rd s.cpu.pc s).andThen fun v s => .ok v (s.setPc (s.cpu.pc + 1))

/-- The internal cycles an instruction's line of `CYCLE_TABLE` puts in place `k` of its effect (R185,
R189). -/
def pause (g : List Nat) (k : Nat) (s : State) : Res Unit := Res.repeat idle (g.getD k 0) s

/-- The `k`-th access of an effect, a read, and the internal cycles after it. -/
def readThen (g : List Nat) (k : Nat) (a : Word) (s : State) : Res Byte :=
  (rd a s).andThen fun v s => (pause g k s).andThen fun _ s => .ok v s

/-- The `k`-th access of an effect, a write, and the internal cycles after it. -/
def writeThen (g : List Nat) (k : Nat) (a : Word) (v : Byte) (s : State) : Res Unit :=
  (wr a v s).andThen fun _ s => pause g k s

/-- An effect that makes no access, from the state it leaves: its internal cycles. -/
def settle (g : List Nat) (s : State) : Res Unit := pause g 0 s

/-- `SP <- SP - 1; wr(SP, v)`, the half of a push (R234). -/
def pushByte (g : List Nat) (k : Nat) (v : Byte) (s : State) : Res Unit :=
  let s := s.setSp (s.cpu.sp - 1)
  writeThen g k s.cpu.sp v s

/-- A push (R234): the high byte at SP - 1, then the low byte at SP - 2. -/
def pushWord (g : List Nat) (v : Word) (s : State) : Res Unit :=
  (pause g 0 s).andThen fun _ s =>
    (pushByte g 1 (hiByte v) s).andThen fun _ s => pushByte g 2 (loByte v) s

/-- `v <- rd(SP); SP <- SP + 1`, the half of a pop (R235). -/
def popByte (s : State) : Res Byte :=
  (rd s.cpu.sp s).andThen fun v s => .ok v (s.setSp (s.cpu.sp + 1))

/-- A pop (R235): the low byte first. -/
def popWord (g : List Nat) (s : State) : Res Word :=
  (pause g 0 s).andThen fun _ s => (popByte s).andThen fun lo s =>
    (pause g 1 s).andThen fun _ s => (popByte s).andThen fun hi s =>
      (pause g 2 s).andThen fun _ s => .ok (pair hi lo) s

/-- `IE AND IF AND 0x1F` (R406): the pending and enabled sources. -/
def State.pending (s : State) : BitVec 5 := s.irq.ie.setWidth 5 &&& s.irq.req

/-- The lowest set bit of the pending sources (R404), below 5 when one is set. -/
def lowestBit (p : BitVec 5) : Nat :=
  if p.getLsbD 0 then 0 else if p.getLsbD 1 then 1 else if p.getLsbD 2 then 2
  else if p.getLsbD 3 then 3 else 4

/-- The vector of source `k` (R407). -/
def vectorOf (k : Nat) : Word := 0x0040 + BitVec.ofNat 16 (8 * k)

/-- Taking an interrupt, once the source `k` is chosen (R406): PC is pushed in two machine cycles, which are
no part of `CYCLE_TABLE` (R189), PC goes to the vector, the source's request bit, IME and `halted` are
cleared. -/
def takeInterrupt (k : Nat) (s : State) : Res Unit :=
  (pushWord [] s.cpu.pc s).andThen fun _ s =>
    .ok () { s with
      cpu := { s.cpu with pc := vectorOf k, ime := false, halted := false }
      irq := { s.irq with req := s.irq.req &&& ~~~(1#5 <<< k) } }

/-- `dispatch()` (R406): it does nothing if no source is pending. -/
def dispatch (s : State) : Res Unit :=
  if s.pending = 0 then .ok () s else takeInterrupt (lowestBit s.pending) s

/-- The return of RET and RETI (R328, R330, R409): pop PC, with the internal cycle after it, then the jump. -/
def returnPop (g : List Nat) (s : State) : Res Unit :=
  (popWord g s).andThen fun a s => .ok () (s.setPc a)

/-- Read an 8-bit operand (R149, R250): a register, the byte at HL, or an immediate. -/
def readOperand (g : List Nat) (o : Operand8) (s : State) : Res Byte :=
  (pause g 0 s).andThen fun _ s =>
    match o with
    | .reg r => .ok (s.reg8 r) s
    | .memHl => readThen g 1 s.hl s
    | .imm v => .ok v s

/-- Write an 8-bit operand (R294); an immediate is no destination. -/
def writeOperand (g : List Nat) (o : Operand8) (v : Byte) (s : State) : Res Unit :=
  match o with
  | .reg r => .ok () (s.setReg8 r v)
  | .memHl => writeThen g 2 s.hl v s
  | .imm _ => .ok () s

/-- What an instruction's effect is to the host: a stopped machine is a state too, whose `status` says
why; no later step exists (R38, R411, R412; log 9). -/
def finish (r : Res Unit) : Host.Outcome State Fault Refusal :=
  match r with
  | .ok _ s => .next s
  | .stop s => .next s

end Sys2Proof.Machine
end

