-- ==== Sys2Proof/Machine/Alu16.lean ====
section
/-! DEFINITION. 16-bit arithmetic (44_alu16.md R280-R283). -/

namespace Sys2Proof.Machine

/-- HL and the flags of ADD HL,rr (R282). -/
def addHl (v : Word) (s : State) : State :=
  (s.setReg16 .hl (addWord s.hl v s.flags.z).value).setFlags (addWord s.hl v s.flags.z).flags

/-- SP and the flags of ADD SP,e8 (R283). -/
def addToSp (e : Byte) (s : State) : State :=
  (s.setSp (addSp s.cpu.sp e).value).setFlags (addSp s.cpu.sp e).flags

/-- INC BC (R280). -/
def execIncBc (s : State) : Host.Outcome State Fault Refusal :=
  finish (settle (s.gaps (.main 0x03)) (s.setReg16 .bc (s.reg16 .bc + 1)))

/-- ADD HL,BC (R282). -/
def execAddHlBc (s : State) : Host.Outcome State Fault Refusal :=
  finish (settle (s.gaps (.main 0x09)) (addHl (s.reg16 .bc) s))

/-- DEC BC (R281). -/
def execDecBc (s : State) : Host.Outcome State Fault Refusal :=
  finish (settle (s.gaps (.main 0x0B)) (s.setReg16 .bc (s.reg16 .bc - 1)))

/-- INC DE (R280). -/
def execIncDe (s : State) : Host.Outcome State Fault Refusal :=
  finish (settle (s.gaps (.main 0x13)) (s.setReg16 .de (s.reg16 .de + 1)))

/-- ADD HL,DE (R282). -/
def execAddHlDe (s : State) : Host.Outcome State Fault Refusal :=
  finish (settle (s.gaps (.main 0x19)) (addHl (s.reg16 .de) s))

/-- DEC DE (R281). -/
def execDecDe (s : State) : Host.Outcome State Fault Refusal :=
  finish (settle (s.gaps (.main 0x1B)) (s.setReg16 .de (s.reg16 .de - 1)))

/-- INC HL (R280). -/
def execIncHl (s : State) : Host.Outcome State Fault Refusal :=
  finish (settle (s.gaps (.main 0x23)) (s.setReg16 .hl (s.reg16 .hl + 1)))

/-- ADD HL,HL (R282). -/
def execAddHlHl (s : State) : Host.Outcome State Fault Refusal :=
  finish (settle (s.gaps (.main 0x29)) (addHl (s.reg16 .hl) s))

/-- DEC HL (R281). -/
def execDecHl (s : State) : Host.Outcome State Fault Refusal :=
  finish (settle (s.gaps (.main 0x2B)) (s.setReg16 .hl (s.reg16 .hl - 1)))

/-- INC SP (R280). -/
def execIncSp (s : State) : Host.Outcome State Fault Refusal :=
  finish (settle (s.gaps (.main 0x33)) (s.setReg16 .sp (s.reg16 .sp + 1)))

/-- ADD HL,SP (R282). -/
def execAddHlSp (s : State) : Host.Outcome State Fault Refusal :=
  finish (settle (s.gaps (.main 0x39)) (addHl (s.reg16 .sp) s))

/-- DEC SP (R281). -/
def execDecSp (s : State) : Host.Outcome State Fault Refusal :=
  finish (settle (s.gaps (.main 0x3B)) (s.setReg16 .sp (s.reg16 .sp - 1)))

/-- ADD SP,e8 (R283). -/
def execAddSpE8 (e8 : Byte) (s : State) : Host.Outcome State Fault Refusal :=
  finish (settle (s.gaps (.main 0xE8)) (addToSp e8 s))

end Sys2Proof.Machine
end

