-- ==== Sys2Proof/Machine/Alu8.lean ====
section
/-! DEFINITION. 8-bit arithmetic and logic (43_alu8.md R250-R266). -/

namespace Sys2Proof.Machine

/-- A result byte goes to A and its flags to F (R251-R258, R263, R264). -/
def accumulator (r : ByteResult) (s : State) : State := (s.setReg8 .a r.value).setFlags r.flags

/-- An accumulator operation on A and an operand (R250-R258). -/
def alu (g : List Nat) (op : AluOp) (o : Operand8) (s : State) : Res Unit :=
  (readOperand g o s).andThen fun v s => .ok () (accumulator (aluByte op s.cpu.a v s.flags.c) s)

/-- INC r (R259). -/
def incReg (r : Reg8) (s : State) : State :=
  let v := s.reg8 r + 1
  (s.setReg8 r v).setFlags { z := v == 0, n := false, h := incHalf (s.reg8 r), c := s.flags.c }

/-- DEC r (R261). -/
def decReg (r : Reg8) (s : State) : State :=
  let v := s.reg8 r - 1
  (s.setReg8 r v).setFlags { z := v == 0, n := true, h := decHalf (s.reg8 r), c := s.flags.c }

/-- INC (HL) (R260): H is written before the write access, Z and N after it. -/
def incMem (g : List Nat) (a : Word) (s : State) : Res Unit :=
  (pause g 0 s).andThen fun _ s => (readThen g 1 a s).andThen fun v s =>
    (writeThen g 2 a (v + 1) (s.setFlags { s.flags with h := incHalf v })).andThen fun _ s =>
      .ok () (s.setFlags { s.flags with z := v + 1 == 0, n := false })

/-- DEC (HL) (R262). -/
def decMem (g : List Nat) (a : Word) (s : State) : Res Unit :=
  (pause g 0 s).andThen fun _ s => (readThen g 1 a s).andThen fun v s =>
    (writeThen g 2 a (v - 1) (s.setFlags { s.flags with h := decHalf v })).andThen fun _ s =>
      .ok () (s.setFlags { s.flags with z := v - 1 == 0, n := true })

/-- INC B (R259). -/
def execIncB (s : State) : Host.Outcome State Fault Refusal :=
  finish (settle (s.gaps (.main 0x04)) (incReg .b s))

/-- DEC B (R261). -/
def execDecB (s : State) : Host.Outcome State Fault Refusal :=
  finish (settle (s.gaps (.main 0x05)) (decReg .b s))

/-- INC C (R259). -/
def execIncC (s : State) : Host.Outcome State Fault Refusal :=
  finish (settle (s.gaps (.main 0x0C)) (incReg .c s))

/-- DEC C (R261). -/
def execDecC (s : State) : Host.Outcome State Fault Refusal :=
  finish (settle (s.gaps (.main 0x0D)) (decReg .c s))

/-- INC D (R259). -/
def execIncD (s : State) : Host.Outcome State Fault Refusal :=
  finish (settle (s.gaps (.main 0x14)) (incReg .d s))

/-- DEC D (R261). -/
def execDecD (s : State) : Host.Outcome State Fault Refusal :=
  finish (settle (s.gaps (.main 0x15)) (decReg .d s))

/-- INC E (R259). -/
def execIncE (s : State) : Host.Outcome State Fault Refusal :=
  finish (settle (s.gaps (.main 0x1C)) (incReg .e s))

/-- DEC E (R261). -/
def execDecE (s : State) : Host.Outcome State Fault Refusal :=
  finish (settle (s.gaps (.main 0x1D)) (decReg .e s))

/-- INC H (R259). -/
def execIncH (s : State) : Host.Outcome State Fault Refusal :=
  finish (settle (s.gaps (.main 0x24)) (incReg .h s))

/-- DEC H (R261). -/
def execDecH (s : State) : Host.Outcome State Fault Refusal :=
  finish (settle (s.gaps (.main 0x25)) (decReg .h s))

/-- DAA (R263). -/
def execDaa (s : State) : Host.Outcome State Fault Refusal :=
  finish (settle (s.gaps (.main 0x27)) (accumulator (daaByte s.cpu.a s.flags) s))

/-- INC L (R259). -/
def execIncL (s : State) : Host.Outcome State Fault Refusal :=
  finish (settle (s.gaps (.main 0x2C)) (incReg .l s))

/-- DEC L (R261). -/
def execDecL (s : State) : Host.Outcome State Fault Refusal :=
  finish (settle (s.gaps (.main 0x2D)) (decReg .l s))

/-- CPL (R264). -/
def execCpl (s : State) : Host.Outcome State Fault Refusal :=
  finish (settle (s.gaps (.main 0x2F))
    (accumulator { value := ~~~s.cpu.a, flags := { s.flags with n := true, h := true } } s))

/-- INC (HL) (R260). -/
def execIncMemHl (s : State) : Host.Outcome State Fault Refusal :=
  finish (incMem (s.gaps (.main 0x34)) s.hl s)

/-- DEC (HL) (R262). -/
def execDecMemHl (s : State) : Host.Outcome State Fault Refusal :=
  finish (decMem (s.gaps (.main 0x35)) s.hl s)

/-- SCF (R265). -/
def execScf (s : State) : Host.Outcome State Fault Refusal :=
  finish (settle (s.gaps (.main 0x37)) (s.setFlags { s.flags with n := false, h := false, c := true }))

/-- INC A (R259). -/
def execIncA (s : State) : Host.Outcome State Fault Refusal :=
  finish (settle (s.gaps (.main 0x3C)) (incReg .a s))

/-- DEC A (R261). -/
def execDecA (s : State) : Host.Outcome State Fault Refusal :=
  finish (settle (s.gaps (.main 0x3D)) (decReg .a s))

/-- CCF (R266). -/
def execCcf (s : State) : Host.Outcome State Fault Refusal :=
  finish (settle (s.gaps (.main 0x3F))
    (s.setFlags { s.flags with n := false, h := false, c := !s.flags.c }))

/-- ADD A,B (R251). -/
def execAddAB (s : State) : Host.Outcome State Fault Refusal :=
  finish (alu (s.gaps (.main 0x80)) .add (.reg .b) s)

/-- ADD A,C (R251). -/
def execAddAC (s : State) : Host.Outcome State Fault Refusal :=
  finish (alu (s.gaps (.main 0x81)) .add (.reg .c) s)

/-- ADD A,D (R251). -/
def execAddAD (s : State) : Host.Outcome State Fault Refusal :=
  finish (alu (s.gaps (.main 0x82)) .add (.reg .d) s)

/-- ADD A,E (R251). -/
def execAddAE (s : State) : Host.Outcome State Fault Refusal :=
  finish (alu (s.gaps (.main 0x83)) .add (.reg .e) s)

/-- ADD A,H (R251). -/
def execAddAH (s : State) : Host.Outcome State Fault Refusal :=
  finish (alu (s.gaps (.main 0x84)) .add (.reg .h) s)

/-- ADD A,L (R251). -/
def execAddAL (s : State) : Host.Outcome State Fault Refusal :=
  finish (alu (s.gaps (.main 0x85)) .add (.reg .l) s)

/-- ADD A,(HL) (R251). -/
def execAddAMemHl (s : State) : Host.Outcome State Fault Refusal :=
  finish (alu (s.gaps (.main 0x86)) .add .memHl s)

/-- ADD A,A (R251). -/
def execAddAA (s : State) : Host.Outcome State Fault Refusal :=
  finish (alu (s.gaps (.main 0x87)) .add (.reg .a) s)

/-- ADC A,B (R252). -/
def execAdcAB (s : State) : Host.Outcome State Fault Refusal :=
  finish (alu (s.gaps (.main 0x88)) .adc (.reg .b) s)

/-- ADC A,C (R252). -/
def execAdcAC (s : State) : Host.Outcome State Fault Refusal :=
  finish (alu (s.gaps (.main 0x89)) .adc (.reg .c) s)

/-- ADC A,D (R252). -/
def execAdcAD (s : State) : Host.Outcome State Fault Refusal :=
  finish (alu (s.gaps (.main 0x8A)) .adc (.reg .d) s)

/-- ADC A,E (R252). -/
def execAdcAE (s : State) : Host.Outcome State Fault Refusal :=
  finish (alu (s.gaps (.main 0x8B)) .adc (.reg .e) s)

/-- ADC A,H (R252). -/
def execAdcAH (s : State) : Host.Outcome State Fault Refusal :=
  finish (alu (s.gaps (.main 0x8C)) .adc (.reg .h) s)

/-- ADC A,L (R252). -/
def execAdcAL (s : State) : Host.Outcome State Fault Refusal :=
  finish (alu (s.gaps (.main 0x8D)) .adc (.reg .l) s)

/-- ADC A,(HL) (R252). -/
def execAdcAMemHl (s : State) : Host.Outcome State Fault Refusal :=
  finish (alu (s.gaps (.main 0x8E)) .adc .memHl s)

/-- ADC A,A (R252). -/
def execAdcAA (s : State) : Host.Outcome State Fault Refusal :=
  finish (alu (s.gaps (.main 0x8F)) .adc (.reg .a) s)

/-- SUB A,B (R253). -/
def execSubAB (s : State) : Host.Outcome State Fault Refusal :=
  finish (alu (s.gaps (.main 0x90)) .sub (.reg .b) s)

/-- SUB A,C (R253). -/
def execSubAC (s : State) : Host.Outcome State Fault Refusal :=
  finish (alu (s.gaps (.main 0x91)) .sub (.reg .c) s)

/-- SUB A,D (R253). -/
def execSubAD (s : State) : Host.Outcome State Fault Refusal :=
  finish (alu (s.gaps (.main 0x92)) .sub (.reg .d) s)

/-- SUB A,E (R253). -/
def execSubAE (s : State) : Host.Outcome State Fault Refusal :=
  finish (alu (s.gaps (.main 0x93)) .sub (.reg .e) s)

/-- SUB A,H (R253). -/
def execSubAH (s : State) : Host.Outcome State Fault Refusal :=
  finish (alu (s.gaps (.main 0x94)) .sub (.reg .h) s)

/-- SUB A,L (R253). -/
def execSubAL (s : State) : Host.Outcome State Fault Refusal :=
  finish (alu (s.gaps (.main 0x95)) .sub (.reg .l) s)

/-- SUB A,(HL) (R253). -/
def execSubAMemHl (s : State) : Host.Outcome State Fault Refusal :=
  finish (alu (s.gaps (.main 0x96)) .sub .memHl s)

/-- SUB A,A (R253). -/
def execSubAA (s : State) : Host.Outcome State Fault Refusal :=
  finish (alu (s.gaps (.main 0x97)) .sub (.reg .a) s)

/-- SBC A,B (R254). -/
def execSbcAB (s : State) : Host.Outcome State Fault Refusal :=
  finish (alu (s.gaps (.main 0x98)) .sbc (.reg .b) s)

/-- SBC A,C (R254). -/
def execSbcAC (s : State) : Host.Outcome State Fault Refusal :=
  finish (alu (s.gaps (.main 0x99)) .sbc (.reg .c) s)

/-- SBC A,D (R254). -/
def execSbcAD (s : State) : Host.Outcome State Fault Refusal :=
  finish (alu (s.gaps (.main 0x9A)) .sbc (.reg .d) s)

/-- SBC A,E (R254). -/
def execSbcAE (s : State) : Host.Outcome State Fault Refusal :=
  finish (alu (s.gaps (.main 0x9B)) .sbc (.reg .e) s)

/-- SBC A,H (R254). -/
def execSbcAH (s : State) : Host.Outcome State Fault Refusal :=
  finish (alu (s.gaps (.main 0x9C)) .sbc (.reg .h) s)

/-- SBC A,L (R254). -/
def execSbcAL (s : State) : Host.Outcome State Fault Refusal :=
  finish (alu (s.gaps (.main 0x9D)) .sbc (.reg .l) s)

/-- SBC A,(HL) (R254). -/
def execSbcAMemHl (s : State) : Host.Outcome State Fault Refusal :=
  finish (alu (s.gaps (.main 0x9E)) .sbc .memHl s)

/-- SBC A,A (R254). -/
def execSbcAA (s : State) : Host.Outcome State Fault Refusal :=
  finish (alu (s.gaps (.main 0x9F)) .sbc (.reg .a) s)

/-- AND A,B (R255). -/
def execAndAB (s : State) : Host.Outcome State Fault Refusal :=
  finish (alu (s.gaps (.main 0xA0)) .and (.reg .b) s)

/-- AND A,C (R255). -/
def execAndAC (s : State) : Host.Outcome State Fault Refusal :=
  finish (alu (s.gaps (.main 0xA1)) .and (.reg .c) s)

/-- AND A,D (R255). -/
def execAndAD (s : State) : Host.Outcome State Fault Refusal :=
  finish (alu (s.gaps (.main 0xA2)) .and (.reg .d) s)

/-- AND A,E (R255). -/
def execAndAE (s : State) : Host.Outcome State Fault Refusal :=
  finish (alu (s.gaps (.main 0xA3)) .and (.reg .e) s)

/-- AND A,H (R255). -/
def execAndAH (s : State) : Host.Outcome State Fault Refusal :=
  finish (alu (s.gaps (.main 0xA4)) .and (.reg .h) s)

/-- AND A,L (R255). -/
def execAndAL (s : State) : Host.Outcome State Fault Refusal :=
  finish (alu (s.gaps (.main 0xA5)) .and (.reg .l) s)

/-- AND A,(HL) (R255). -/
def execAndAMemHl (s : State) : Host.Outcome State Fault Refusal :=
  finish (alu (s.gaps (.main 0xA6)) .and .memHl s)

/-- AND A,A (R255). -/
def execAndAA (s : State) : Host.Outcome State Fault Refusal :=
  finish (alu (s.gaps (.main 0xA7)) .and (.reg .a) s)

/-- XOR A,B (R256). -/
def execXorAB (s : State) : Host.Outcome State Fault Refusal :=
  finish (alu (s.gaps (.main 0xA8)) .xor (.reg .b) s)

/-- XOR A,C (R256). -/
def execXorAC (s : State) : Host.Outcome State Fault Refusal :=
  finish (alu (s.gaps (.main 0xA9)) .xor (.reg .c) s)

/-- XOR A,D (R256). -/
def execXorAD (s : State) : Host.Outcome State Fault Refusal :=
  finish (alu (s.gaps (.main 0xAA)) .xor (.reg .d) s)

/-- XOR A,E (R256). -/
def execXorAE (s : State) : Host.Outcome State Fault Refusal :=
  finish (alu (s.gaps (.main 0xAB)) .xor (.reg .e) s)

/-- XOR A,H (R256). -/
def execXorAH (s : State) : Host.Outcome State Fault Refusal :=
  finish (alu (s.gaps (.main 0xAC)) .xor (.reg .h) s)

/-- XOR A,L (R256). -/
def execXorAL (s : State) : Host.Outcome State Fault Refusal :=
  finish (alu (s.gaps (.main 0xAD)) .xor (.reg .l) s)

/-- XOR A,(HL) (R256). -/
def execXorAMemHl (s : State) : Host.Outcome State Fault Refusal :=
  finish (alu (s.gaps (.main 0xAE)) .xor .memHl s)

/-- XOR A,A (R256). -/
def execXorAA (s : State) : Host.Outcome State Fault Refusal :=
  finish (alu (s.gaps (.main 0xAF)) .xor (.reg .a) s)

/-- OR A,B (R257). -/
def execOrAB (s : State) : Host.Outcome State Fault Refusal :=
  finish (alu (s.gaps (.main 0xB0)) .or (.reg .b) s)

/-- OR A,C (R257). -/
def execOrAC (s : State) : Host.Outcome State Fault Refusal :=
  finish (alu (s.gaps (.main 0xB1)) .or (.reg .c) s)

/-- OR A,D (R257). -/
def execOrAD (s : State) : Host.Outcome State Fault Refusal :=
  finish (alu (s.gaps (.main 0xB2)) .or (.reg .d) s)

/-- OR A,E (R257). -/
def execOrAE (s : State) : Host.Outcome State Fault Refusal :=
  finish (alu (s.gaps (.main 0xB3)) .or (.reg .e) s)

/-- OR A,H (R257). -/
def execOrAH (s : State) : Host.Outcome State Fault Refusal :=
  finish (alu (s.gaps (.main 0xB4)) .or (.reg .h) s)

/-- OR A,L (R257). -/
def execOrAL (s : State) : Host.Outcome State Fault Refusal :=
  finish (alu (s.gaps (.main 0xB5)) .or (.reg .l) s)

/-- OR A,(HL) (R257). -/
def execOrAMemHl (s : State) : Host.Outcome State Fault Refusal :=
  finish (alu (s.gaps (.main 0xB6)) .or .memHl s)

/-- OR A,A (R257). -/
def execOrAA (s : State) : Host.Outcome State Fault Refusal :=
  finish (alu (s.gaps (.main 0xB7)) .or (.reg .a) s)

/-- CP A,B (R258). -/
def execCpAB (s : State) : Host.Outcome State Fault Refusal :=
  finish (alu (s.gaps (.main 0xB8)) .cp (.reg .b) s)

/-- CP A,C (R258). -/
def execCpAC (s : State) : Host.Outcome State Fault Refusal :=
  finish (alu (s.gaps (.main 0xB9)) .cp (.reg .c) s)

/-- CP A,D (R258). -/
def execCpAD (s : State) : Host.Outcome State Fault Refusal :=
  finish (alu (s.gaps (.main 0xBA)) .cp (.reg .d) s)

/-- CP A,E (R258). -/
def execCpAE (s : State) : Host.Outcome State Fault Refusal :=
  finish (alu (s.gaps (.main 0xBB)) .cp (.reg .e) s)

/-- CP A,H (R258). -/
def execCpAH (s : State) : Host.Outcome State Fault Refusal :=
  finish (alu (s.gaps (.main 0xBC)) .cp (.reg .h) s)

/-- CP A,L (R258). -/
def execCpAL (s : State) : Host.Outcome State Fault Refusal :=
  finish (alu (s.gaps (.main 0xBD)) .cp (.reg .l) s)

/-- CP A,(HL) (R258). -/
def execCpAMemHl (s : State) : Host.Outcome State Fault Refusal :=
  finish (alu (s.gaps (.main 0xBE)) .cp .memHl s)

/-- CP A,A (R258). -/
def execCpAA (s : State) : Host.Outcome State Fault Refusal :=
  finish (alu (s.gaps (.main 0xBF)) .cp (.reg .a) s)

/-- ADD A,d8 (R251). -/
def execAddAD8 (d8 : Byte) (s : State) : Host.Outcome State Fault Refusal :=
  finish (alu (s.gaps (.main 0xC6)) .add (.imm d8) s)

/-- ADC A,d8 (R252). -/
def execAdcAD8 (d8 : Byte) (s : State) : Host.Outcome State Fault Refusal :=
  finish (alu (s.gaps (.main 0xCE)) .adc (.imm d8) s)

/-- SUB A,d8 (R253). -/
def execSubAD8 (d8 : Byte) (s : State) : Host.Outcome State Fault Refusal :=
  finish (alu (s.gaps (.main 0xD6)) .sub (.imm d8) s)

/-- SBC A,d8 (R254). -/
def execSbcAD8 (d8 : Byte) (s : State) : Host.Outcome State Fault Refusal :=
  finish (alu (s.gaps (.main 0xDE)) .sbc (.imm d8) s)

/-- AND A,d8 (R255). -/
def execAndAD8 (d8 : Byte) (s : State) : Host.Outcome State Fault Refusal :=
  finish (alu (s.gaps (.main 0xE6)) .and (.imm d8) s)

/-- XOR A,d8 (R256). -/
def execXorAD8 (d8 : Byte) (s : State) : Host.Outcome State Fault Refusal :=
  finish (alu (s.gaps (.main 0xEE)) .xor (.imm d8) s)

/-- OR A,d8 (R257). -/
def execOrAD8 (d8 : Byte) (s : State) : Host.Outcome State Fault Refusal :=
  finish (alu (s.gaps (.main 0xF6)) .or (.imm d8) s)

/-- CP A,d8 (R258). -/
def execCpAD8 (d8 : Byte) (s : State) : Host.Outcome State Fault Refusal :=
  finish (alu (s.gaps (.main 0xFE)) .cp (.imm d8) s)

end Sys2Proof.Machine
end

