-- ==== Sys2Proof/Machine/Control.lean ====
section
/-! DEFINITION. Control transfer (46_control.md R320-R331). -/

namespace Sys2Proof.Machine

/-- A condition that fails (R188): nothing but the line's not-taken internal cycles. -/
def notTaken (line : CycleLine) (s : State) : Res Unit := Res.repeat idle line.notTaken s

/-- JP (R321): the internal cycle, then PC. -/
def jump (g : List Nat) (a : Word) (s : State) : Res Unit := (pause g 0 s).andThen fun _ s => .ok () (s.setPc a)

/-- JP cc (R322). -/
def jumpIf (line : CycleLine) (taken : Bool) (a : Word) (s : State) : Res Unit :=
  if taken then jump line.taken a s else notTaken line s

/-- JR (R324): relative to the address after the instruction. -/
def jumpRelative (g : List Nat) (e : Byte) (s : State) : Res Unit :=
  (pause g 0 s).andThen fun _ s => .ok () (s.setPc (s.cpu.pc + sext e))

/-- JR cc (R325). -/
def jumpRelativeIf (line : CycleLine) (taken : Bool) (e : Byte) (s : State) : Res Unit :=
  if taken then jumpRelative line.taken e s else notTaken line s

/-- CALL and RST (R326, R331): the internal cycle, PC pushed, then PC. -/
def call (g : List Nat) (a : Word) (s : State) : Res Unit :=
  (pushWord g s.cpu.pc s).andThen fun _ s => .ok () (s.setPc a)

/-- CALL cc (R327). -/
def callIf (line : CycleLine) (taken : Bool) (a : Word) (s : State) : Res Unit :=
  if taken then call line.taken a s else notTaken line s

/-- RET cc (R329): the condition-test cycle is in both of its lines. -/
def returnIf (line : CycleLine) (taken : Bool) (s : State) : Res Unit :=
  if taken then returnPop line.taken s else notTaken line s

/-- `IME <- 1` at once, as RETI does (R330, D14). -/
def enableNow (s : State) : State := { s with cpu := { s.cpu with ime := true } }

/-- JR e8 (R324). -/
def execJrE8 (e8 : Byte) (s : State) : Host.Outcome State Fault Refusal :=
  finish (jumpRelative (s.gaps (.main 0x18)) e8 s)

/-- JR NZ,e8 (R325). -/
def execJrNzE8 (e8 : Byte) (s : State) : Host.Outcome State Fault Refusal :=
  finish (jumpRelativeIf (s.cycleLine (.main 0x20)) (s.cond .nz) e8 s)

/-- JR Z,e8 (R325). -/
def execJrZE8 (e8 : Byte) (s : State) : Host.Outcome State Fault Refusal :=
  finish (jumpRelativeIf (s.cycleLine (.main 0x28)) (s.cond .z) e8 s)

/-- JR NC,e8 (R325). -/
def execJrNcE8 (e8 : Byte) (s : State) : Host.Outcome State Fault Refusal :=
  finish (jumpRelativeIf (s.cycleLine (.main 0x30)) (s.cond .nc) e8 s)

/-- JR C,e8 (R325). -/
def execJrCE8 (e8 : Byte) (s : State) : Host.Outcome State Fault Refusal :=
  finish (jumpRelativeIf (s.cycleLine (.main 0x38)) (s.cond .c) e8 s)

/-- RET NZ (R329). -/
def execRetNz (s : State) : Host.Outcome State Fault Refusal :=
  finish (returnIf (s.cycleLine (.main 0xC0)) (s.cond .nz) s)

/-- JP NZ,a16 (R322). -/
def execJpNzA16 (a16 : Word) (s : State) : Host.Outcome State Fault Refusal :=
  finish (jumpIf (s.cycleLine (.main 0xC2)) (s.cond .nz) a16 s)

/-- JP a16 (R321). -/
def execJpA16 (a16 : Word) (s : State) : Host.Outcome State Fault Refusal :=
  finish (jump (s.gaps (.main 0xC3)) a16 s)

/-- CALL NZ,a16 (R327). -/
def execCallNzA16 (a16 : Word) (s : State) : Host.Outcome State Fault Refusal :=
  finish (callIf (s.cycleLine (.main 0xC4)) (s.cond .nz) a16 s)

/-- RST 00H (R331). -/
def execRst00 (s : State) : Host.Outcome State Fault Refusal :=
  finish (call (s.gaps (.main 0xC7)) 0x0000 s)

/-- RET Z (R329). -/
def execRetZ (s : State) : Host.Outcome State Fault Refusal :=
  finish (returnIf (s.cycleLine (.main 0xC8)) (s.cond .z) s)

/-- RET (R328). -/
def execRet (s : State) : Host.Outcome State Fault Refusal :=
  finish (returnPop (s.gaps (.main 0xC9)) s)

/-- JP Z,a16 (R322). -/
def execJpZA16 (a16 : Word) (s : State) : Host.Outcome State Fault Refusal :=
  finish (jumpIf (s.cycleLine (.main 0xCA)) (s.cond .z) a16 s)

/-- CALL Z,a16 (R327). -/
def execCallZA16 (a16 : Word) (s : State) : Host.Outcome State Fault Refusal :=
  finish (callIf (s.cycleLine (.main 0xCC)) (s.cond .z) a16 s)

/-- CALL a16 (R326). -/
def execCallA16 (a16 : Word) (s : State) : Host.Outcome State Fault Refusal :=
  finish (call (s.gaps (.main 0xCD)) a16 s)

/-- RST 08H (R331). -/
def execRst08 (s : State) : Host.Outcome State Fault Refusal :=
  finish (call (s.gaps (.main 0xCF)) 0x0008 s)

/-- RET NC (R329). -/
def execRetNc (s : State) : Host.Outcome State Fault Refusal :=
  finish (returnIf (s.cycleLine (.main 0xD0)) (s.cond .nc) s)

/-- JP NC,a16 (R322). -/
def execJpNcA16 (a16 : Word) (s : State) : Host.Outcome State Fault Refusal :=
  finish (jumpIf (s.cycleLine (.main 0xD2)) (s.cond .nc) a16 s)

/-- CALL NC,a16 (R327). -/
def execCallNcA16 (a16 : Word) (s : State) : Host.Outcome State Fault Refusal :=
  finish (callIf (s.cycleLine (.main 0xD4)) (s.cond .nc) a16 s)

/-- RST 10H (R331). -/
def execRst10 (s : State) : Host.Outcome State Fault Refusal :=
  finish (call (s.gaps (.main 0xD7)) 0x0010 s)

/-- RET C (R329). -/
def execRetC (s : State) : Host.Outcome State Fault Refusal :=
  finish (returnIf (s.cycleLine (.main 0xD8)) (s.cond .c) s)

/-- RETI (R330). -/
def execReti (s : State) : Host.Outcome State Fault Refusal :=
  finish ((returnPop (s.gaps (.main 0xD9)) s).andThen fun _ s => .ok () (enableNow s))

/-- JP C,a16 (R322). -/
def execJpCA16 (a16 : Word) (s : State) : Host.Outcome State Fault Refusal :=
  finish (jumpIf (s.cycleLine (.main 0xDA)) (s.cond .c) a16 s)

/-- CALL C,a16 (R327). -/
def execCallCA16 (a16 : Word) (s : State) : Host.Outcome State Fault Refusal :=
  finish (callIf (s.cycleLine (.main 0xDC)) (s.cond .c) a16 s)

/-- RST 18H (R331). -/
def execRst18 (s : State) : Host.Outcome State Fault Refusal :=
  finish (call (s.gaps (.main 0xDF)) 0x0018 s)

/-- RST 20H (R331). -/
def execRst20 (s : State) : Host.Outcome State Fault Refusal :=
  finish (call (s.gaps (.main 0xE7)) 0x0020 s)

/-- JP HL (R323). -/
def execJpHl (s : State) : Host.Outcome State Fault Refusal :=
  finish (settle (s.gaps (.main 0xE9)) (s.setPc s.hl))

/-- RST 28H (R331). -/
def execRst28 (s : State) : Host.Outcome State Fault Refusal :=
  finish (call (s.gaps (.main 0xEF)) 0x0028 s)

/-- RST 30H (R331). -/
def execRst30 (s : State) : Host.Outcome State Fault Refusal :=
  finish (call (s.gaps (.main 0xF7)) 0x0030 s)

/-- RST 38H (R331). -/
def execRst38 (s : State) : Host.Outcome State Fault Refusal :=
  finish (call (s.gaps (.main 0xFF)) 0x0038 s)

end Sys2Proof.Machine
end

