-- ==== Sys2Proof/Machine/Load16.lean ====
section
/-! DEFINITION. 16-bit loads and stack (42_load16_stack.md R230-R236). -/

namespace Sys2Proof.Machine

/-- `wr(a, v[7:0]); wr(a + 1, v[15:8])` (R231, R91). -/
def storeWord (g : List Nat) (a v : Word) (s : State) : Res Unit :=
  (pause g 0 s).andThen fun _ s =>
    (writeThen g 1 a (loByte v) s).andThen fun _ s => writeThen g 2 (a + 1) (hiByte v) s

/-- HL and the flags of LD HL,SP+e8 (R233). -/
def loadHlSp (e : Byte) (s : State) : State :=
  (s.setReg16 .hl (addSp s.cpu.sp e).value).setFlags (addSp s.cpu.sp e).flags

/-- POP (R235, R236). -/
def pop (g : List Nat) (r : StackReg) (s : State) : Res Unit :=
  (popWord g s).andThen fun v s => .ok () (s.setStackReg r v)

/-- LD BC,d16 (R230). -/
def execLdBcD16 (d16 : Word) (s : State) : Host.Outcome State Fault Refusal :=
  finish (settle (s.gaps (.main 0x01)) (s.setReg16 .bc d16))

/-- LD (a16),SP (R231). -/
def execLdMemA16Sp (a16 : Word) (s : State) : Host.Outcome State Fault Refusal :=
  finish (storeWord (s.gaps (.main 0x08)) a16 s.cpu.sp s)

/-- LD DE,d16 (R230). -/
def execLdDeD16 (d16 : Word) (s : State) : Host.Outcome State Fault Refusal :=
  finish (settle (s.gaps (.main 0x11)) (s.setReg16 .de d16))

/-- LD HL,d16 (R230). -/
def execLdHlD16 (d16 : Word) (s : State) : Host.Outcome State Fault Refusal :=
  finish (settle (s.gaps (.main 0x21)) (s.setReg16 .hl d16))

/-- LD SP,d16 (R230). -/
def execLdSpD16 (d16 : Word) (s : State) : Host.Outcome State Fault Refusal :=
  finish (settle (s.gaps (.main 0x31)) (s.setReg16 .sp d16))

/-- POP BC (R235). -/
def execPopBc (s : State) : Host.Outcome State Fault Refusal :=
  finish (pop (s.gaps (.main 0xC1)) .bc s)

/-- PUSH BC (R234). -/
def execPushBc (s : State) : Host.Outcome State Fault Refusal :=
  finish (pushWord (s.gaps (.main 0xC5)) (s.stackReg .bc) s)

/-- POP DE (R235). -/
def execPopDe (s : State) : Host.Outcome State Fault Refusal :=
  finish (pop (s.gaps (.main 0xD1)) .de s)

/-- PUSH DE (R234). -/
def execPushDe (s : State) : Host.Outcome State Fault Refusal :=
  finish (pushWord (s.gaps (.main 0xD5)) (s.stackReg .de) s)

/-- POP HL (R235). -/
def execPopHl (s : State) : Host.Outcome State Fault Refusal :=
  finish (pop (s.gaps (.main 0xE1)) .hl s)

/-- PUSH HL (R234). -/
def execPushHl (s : State) : Host.Outcome State Fault Refusal :=
  finish (pushWord (s.gaps (.main 0xE5)) (s.stackReg .hl) s)

/-- POP AF (R236). -/
def execPopAf (s : State) : Host.Outcome State Fault Refusal :=
  finish (pop (s.gaps (.main 0xF1)) .af s)

/-- PUSH AF (R234). -/
def execPushAf (s : State) : Host.Outcome State Fault Refusal :=
  finish (pushWord (s.gaps (.main 0xF5)) (s.stackReg .af) s)

/-- LD HL,SP+e8 (R233). -/
def execLdHlSpE8 (e8 : Byte) (s : State) : Host.Outcome State Fault Refusal :=
  finish (settle (s.gaps (.main 0xF8)) (loadHlSp e8 s))

/-- LD SP,HL (R232). -/
def execLdSpHl (s : State) : Host.Outcome State Fault Refusal :=
  finish (settle (s.gaps (.main 0xF9)) (s.setSp s.hl))

end Sys2Proof.Machine
end

