-- ==== Sys2Proof/Machine/Load8.lean ====
section
/-! DEFINITION. 8-bit loads (41_load8.md R200-R217). The state a meaning is given is the one after the
instruction's bytes were fetched, PC past them. -/

namespace Sys2Proof.Machine

/-- `reg8[r] <- v` (R201, R202). -/
def loadReg (g : List Nat) (r : Reg8) (v : Byte) (s : State) : Res Unit := settle g (s.setReg8 r v)

/-- `reg8[r] <- rd(a)` (R203, R206, R208, R210, R212). -/
def loadFrom (g : List Nat) (r : Reg8) (a : Word) (s : State) : Res Unit :=
  (pause g 0 s).andThen fun _ s => (readThen g 1 a s).andThen fun v s => .ok () (s.setReg8 r v)

/-- `wr(a, v)` (R204, R205, R207, R209, R211, R213). -/
def storeTo (g : List Nat) (a : Word) (v : Byte) (s : State) : Res Unit :=
  (pause g 0 s).andThen fun _ s => writeThen g 1 a v s

/-- The post-increment or -decrement of HL, after the access (R183, R214-R217). -/
def bumpHl (by_ : Word) (_ : Unit) (s : State) : Res Unit := .ok () (s.setReg16 .hl (s.hl + by_))

/-- LD (BC),A (R207). -/
def execLdMemBcA (s : State) : Host.Outcome State Fault Refusal :=
  finish (storeTo (s.gaps (.main 0x02)) (s.reg16 .bc) s.cpu.a s)

/-- LD B,d8 (R202). -/
def execLdBD8 (d8 : Byte) (s : State) : Host.Outcome State Fault Refusal :=
  finish (loadReg (s.gaps (.main 0x06)) .b d8 s)

/-- LD A,(BC) (R206). -/
def execLdAMemBc (s : State) : Host.Outcome State Fault Refusal :=
  finish (loadFrom (s.gaps (.main 0x0A)) .a (s.reg16 .bc) s)

/-- LD C,d8 (R202). -/
def execLdCD8 (d8 : Byte) (s : State) : Host.Outcome State Fault Refusal :=
  finish (loadReg (s.gaps (.main 0x0E)) .c d8 s)

/-- LD (DE),A (R207). -/
def execLdMemDeA (s : State) : Host.Outcome State Fault Refusal :=
  finish (storeTo (s.gaps (.main 0x12)) (s.reg16 .de) s.cpu.a s)

/-- LD D,d8 (R202). -/
def execLdDD8 (d8 : Byte) (s : State) : Host.Outcome State Fault Refusal :=
  finish (loadReg (s.gaps (.main 0x16)) .d d8 s)

/-- LD A,(DE) (R206). -/
def execLdAMemDe (s : State) : Host.Outcome State Fault Refusal :=
  finish (loadFrom (s.gaps (.main 0x1A)) .a (s.reg16 .de) s)

/-- LD E,d8 (R202). -/
def execLdED8 (d8 : Byte) (s : State) : Host.Outcome State Fault Refusal :=
  finish (loadReg (s.gaps (.main 0x1E)) .e d8 s)

/-- LD (HL+),A (R216). -/
def execLdMemHlIncA (s : State) : Host.Outcome State Fault Refusal :=
  finish ((storeTo (s.gaps (.main 0x22)) s.hl s.cpu.a s).andThen (bumpHl 1))

/-- LD H,d8 (R202). -/
def execLdHD8 (d8 : Byte) (s : State) : Host.Outcome State Fault Refusal :=
  finish (loadReg (s.gaps (.main 0x26)) .h d8 s)

/-- LD A,(HL+) (R214). -/
def execLdAMemHlInc (s : State) : Host.Outcome State Fault Refusal :=
  finish ((loadFrom (s.gaps (.main 0x2A)) .a s.hl s).andThen (bumpHl 1))

/-- LD L,d8 (R202). -/
def execLdLD8 (d8 : Byte) (s : State) : Host.Outcome State Fault Refusal :=
  finish (loadReg (s.gaps (.main 0x2E)) .l d8 s)

/-- LD (HL-),A (R217). -/
def execLdMemHlDecA (s : State) : Host.Outcome State Fault Refusal :=
  finish ((storeTo (s.gaps (.main 0x32)) s.hl s.cpu.a s).andThen (bumpHl (-1)))

/-- LD (HL),d8 (R205). -/
def execLdMemHlD8 (d8 : Byte) (s : State) : Host.Outcome State Fault Refusal :=
  finish (storeTo (s.gaps (.main 0x36)) s.hl d8 s)

/-- LD A,(HL-) (R215). -/
def execLdAMemHlDec (s : State) : Host.Outcome State Fault Refusal :=
  finish ((loadFrom (s.gaps (.main 0x3A)) .a s.hl s).andThen (bumpHl (-1)))

/-- LD A,d8 (R202). -/
def execLdAD8 (d8 : Byte) (s : State) : Host.Outcome State Fault Refusal :=
  finish (loadReg (s.gaps (.main 0x3E)) .a d8 s)

/-- LD B,B (R201). -/
def execLdBB (s : State) : Host.Outcome State Fault Refusal :=
  finish (loadReg (s.gaps (.main 0x40)) .b (s.reg8 .b) s)

/-- LD B,C (R201). -/
def execLdBC (s : State) : Host.Outcome State Fault Refusal :=
  finish (loadReg (s.gaps (.main 0x41)) .b (s.reg8 .c) s)

/-- LD B,D (R201). -/
def execLdBD (s : State) : Host.Outcome State Fault Refusal :=
  finish (loadReg (s.gaps (.main 0x42)) .b (s.reg8 .d) s)

/-- LD B,E (R201). -/
def execLdBE (s : State) : Host.Outcome State Fault Refusal :=
  finish (loadReg (s.gaps (.main 0x43)) .b (s.reg8 .e) s)

/-- LD B,H (R201). -/
def execLdBH (s : State) : Host.Outcome State Fault Refusal :=
  finish (loadReg (s.gaps (.main 0x44)) .b (s.reg8 .h) s)

/-- LD B,L (R201). -/
def execLdBL (s : State) : Host.Outcome State Fault Refusal :=
  finish (loadReg (s.gaps (.main 0x45)) .b (s.reg8 .l) s)

/-- LD B,(HL) (R203). -/
def execLdBMemHl (s : State) : Host.Outcome State Fault Refusal :=
  finish (loadFrom (s.gaps (.main 0x46)) .b s.hl s)

/-- LD B,A (R201). -/
def execLdBA (s : State) : Host.Outcome State Fault Refusal :=
  finish (loadReg (s.gaps (.main 0x47)) .b (s.reg8 .a) s)

/-- LD C,B (R201). -/
def execLdCB (s : State) : Host.Outcome State Fault Refusal :=
  finish (loadReg (s.gaps (.main 0x48)) .c (s.reg8 .b) s)

/-- LD C,C (R201). -/
def execLdCC (s : State) : Host.Outcome State Fault Refusal :=
  finish (loadReg (s.gaps (.main 0x49)) .c (s.reg8 .c) s)

/-- LD C,D (R201). -/
def execLdCD (s : State) : Host.Outcome State Fault Refusal :=
  finish (loadReg (s.gaps (.main 0x4A)) .c (s.reg8 .d) s)

/-- LD C,E (R201). -/
def execLdCE (s : State) : Host.Outcome State Fault Refusal :=
  finish (loadReg (s.gaps (.main 0x4B)) .c (s.reg8 .e) s)

/-- LD C,H (R201). -/
def execLdCH (s : State) : Host.Outcome State Fault Refusal :=
  finish (loadReg (s.gaps (.main 0x4C)) .c (s.reg8 .h) s)

/-- LD C,L (R201). -/
def execLdCL (s : State) : Host.Outcome State Fault Refusal :=
  finish (loadReg (s.gaps (.main 0x4D)) .c (s.reg8 .l) s)

/-- LD C,(HL) (R203). -/
def execLdCMemHl (s : State) : Host.Outcome State Fault Refusal :=
  finish (loadFrom (s.gaps (.main 0x4E)) .c s.hl s)

/-- LD C,A (R201). -/
def execLdCA (s : State) : Host.Outcome State Fault Refusal :=
  finish (loadReg (s.gaps (.main 0x4F)) .c (s.reg8 .a) s)

/-- LD D,B (R201). -/
def execLdDB (s : State) : Host.Outcome State Fault Refusal :=
  finish (loadReg (s.gaps (.main 0x50)) .d (s.reg8 .b) s)

/-- LD D,C (R201). -/
def execLdDC (s : State) : Host.Outcome State Fault Refusal :=
  finish (loadReg (s.gaps (.main 0x51)) .d (s.reg8 .c) s)

/-- LD D,D (R201). -/
def execLdDD (s : State) : Host.Outcome State Fault Refusal :=
  finish (loadReg (s.gaps (.main 0x52)) .d (s.reg8 .d) s)

/-- LD D,E (R201). -/
def execLdDE (s : State) : Host.Outcome State Fault Refusal :=
  finish (loadReg (s.gaps (.main 0x53)) .d (s.reg8 .e) s)

/-- LD D,H (R201). -/
def execLdDH (s : State) : Host.Outcome State Fault Refusal :=
  finish (loadReg (s.gaps (.main 0x54)) .d (s.reg8 .h) s)

/-- LD D,L (R201). -/
def execLdDL (s : State) : Host.Outcome State Fault Refusal :=
  finish (loadReg (s.gaps (.main 0x55)) .d (s.reg8 .l) s)

/-- LD D,(HL) (R203). -/
def execLdDMemHl (s : State) : Host.Outcome State Fault Refusal :=
  finish (loadFrom (s.gaps (.main 0x56)) .d s.hl s)

/-- LD D,A (R201). -/
def execLdDA (s : State) : Host.Outcome State Fault Refusal :=
  finish (loadReg (s.gaps (.main 0x57)) .d (s.reg8 .a) s)

/-- LD E,B (R201). -/
def execLdEB (s : State) : Host.Outcome State Fault Refusal :=
  finish (loadReg (s.gaps (.main 0x58)) .e (s.reg8 .b) s)

/-- LD E,C (R201). -/
def execLdEC (s : State) : Host.Outcome State Fault Refusal :=
  finish (loadReg (s.gaps (.main 0x59)) .e (s.reg8 .c) s)

/-- LD E,D (R201). -/
def execLdED (s : State) : Host.Outcome State Fault Refusal :=
  finish (loadReg (s.gaps (.main 0x5A)) .e (s.reg8 .d) s)

/-- LD E,E (R201). -/
def execLdEE (s : State) : Host.Outcome State Fault Refusal :=
  finish (loadReg (s.gaps (.main 0x5B)) .e (s.reg8 .e) s)

/-- LD E,H (R201). -/
def execLdEH (s : State) : Host.Outcome State Fault Refusal :=
  finish (loadReg (s.gaps (.main 0x5C)) .e (s.reg8 .h) s)

/-- LD E,L (R201). -/
def execLdEL (s : State) : Host.Outcome State Fault Refusal :=
  finish (loadReg (s.gaps (.main 0x5D)) .e (s.reg8 .l) s)

/-- LD E,(HL) (R203). -/
def execLdEMemHl (s : State) : Host.Outcome State Fault Refusal :=
  finish (loadFrom (s.gaps (.main 0x5E)) .e s.hl s)

/-- LD E,A (R201). -/
def execLdEA (s : State) : Host.Outcome State Fault Refusal :=
  finish (loadReg (s.gaps (.main 0x5F)) .e (s.reg8 .a) s)

/-- LD H,B (R201). -/
def execLdHB (s : State) : Host.Outcome State Fault Refusal :=
  finish (loadReg (s.gaps (.main 0x60)) .h (s.reg8 .b) s)

/-- LD H,C (R201). -/
def execLdHC (s : State) : Host.Outcome State Fault Refusal :=
  finish (loadReg (s.gaps (.main 0x61)) .h (s.reg8 .c) s)

/-- LD H,D (R201). -/
def execLdHD (s : State) : Host.Outcome State Fault Refusal :=
  finish (loadReg (s.gaps (.main 0x62)) .h (s.reg8 .d) s)

/-- LD H,E (R201). -/
def execLdHE (s : State) : Host.Outcome State Fault Refusal :=
  finish (loadReg (s.gaps (.main 0x63)) .h (s.reg8 .e) s)

/-- LD H,H (R201). -/
def execLdHH (s : State) : Host.Outcome State Fault Refusal :=
  finish (loadReg (s.gaps (.main 0x64)) .h (s.reg8 .h) s)

/-- LD H,L (R201). -/
def execLdHL (s : State) : Host.Outcome State Fault Refusal :=
  finish (loadReg (s.gaps (.main 0x65)) .h (s.reg8 .l) s)

/-- LD H,(HL) (R203). -/
def execLdHMemHl (s : State) : Host.Outcome State Fault Refusal :=
  finish (loadFrom (s.gaps (.main 0x66)) .h s.hl s)

/-- LD H,A (R201). -/
def execLdHA (s : State) : Host.Outcome State Fault Refusal :=
  finish (loadReg (s.gaps (.main 0x67)) .h (s.reg8 .a) s)

/-- LD L,B (R201). -/
def execLdLB (s : State) : Host.Outcome State Fault Refusal :=
  finish (loadReg (s.gaps (.main 0x68)) .l (s.reg8 .b) s)

/-- LD L,C (R201). -/
def execLdLC (s : State) : Host.Outcome State Fault Refusal :=
  finish (loadReg (s.gaps (.main 0x69)) .l (s.reg8 .c) s)

/-- LD L,D (R201). -/
def execLdLD (s : State) : Host.Outcome State Fault Refusal :=
  finish (loadReg (s.gaps (.main 0x6A)) .l (s.reg8 .d) s)

/-- LD L,E (R201). -/
def execLdLE (s : State) : Host.Outcome State Fault Refusal :=
  finish (loadReg (s.gaps (.main 0x6B)) .l (s.reg8 .e) s)

/-- LD L,H (R201). -/
def execLdLH (s : State) : Host.Outcome State Fault Refusal :=
  finish (loadReg (s.gaps (.main 0x6C)) .l (s.reg8 .h) s)

/-- LD L,L (R201). -/
def execLdLL (s : State) : Host.Outcome State Fault Refusal :=
  finish (loadReg (s.gaps (.main 0x6D)) .l (s.reg8 .l) s)

/-- LD L,(HL) (R203). -/
def execLdLMemHl (s : State) : Host.Outcome State Fault Refusal :=
  finish (loadFrom (s.gaps (.main 0x6E)) .l s.hl s)

/-- LD L,A (R201). -/
def execLdLA (s : State) : Host.Outcome State Fault Refusal :=
  finish (loadReg (s.gaps (.main 0x6F)) .l (s.reg8 .a) s)

/-- LD (HL),B (R204). -/
def execLdMemHlB (s : State) : Host.Outcome State Fault Refusal :=
  finish (storeTo (s.gaps (.main 0x70)) s.hl (s.reg8 .b) s)

/-- LD (HL),C (R204). -/
def execLdMemHlC (s : State) : Host.Outcome State Fault Refusal :=
  finish (storeTo (s.gaps (.main 0x71)) s.hl (s.reg8 .c) s)

/-- LD (HL),D (R204). -/
def execLdMemHlD (s : State) : Host.Outcome State Fault Refusal :=
  finish (storeTo (s.gaps (.main 0x72)) s.hl (s.reg8 .d) s)

/-- LD (HL),E (R204). -/
def execLdMemHlE (s : State) : Host.Outcome State Fault Refusal :=
  finish (storeTo (s.gaps (.main 0x73)) s.hl (s.reg8 .e) s)

/-- LD (HL),H (R204). -/
def execLdMemHlH (s : State) : Host.Outcome State Fault Refusal :=
  finish (storeTo (s.gaps (.main 0x74)) s.hl (s.reg8 .h) s)

/-- LD (HL),L (R204). -/
def execLdMemHlL (s : State) : Host.Outcome State Fault Refusal :=
  finish (storeTo (s.gaps (.main 0x75)) s.hl (s.reg8 .l) s)

/-- LD (HL),A (R204). -/
def execLdMemHlA (s : State) : Host.Outcome State Fault Refusal :=
  finish (storeTo (s.gaps (.main 0x77)) s.hl (s.reg8 .a) s)

/-- LD A,B (R201). -/
def execLdAB (s : State) : Host.Outcome State Fault Refusal :=
  finish (loadReg (s.gaps (.main 0x78)) .a (s.reg8 .b) s)

/-- LD A,C (R201). -/
def execLdAC (s : State) : Host.Outcome State Fault Refusal :=
  finish (loadReg (s.gaps (.main 0x79)) .a (s.reg8 .c) s)

/-- LD A,D (R201). -/
def execLdAD (s : State) : Host.Outcome State Fault Refusal :=
  finish (loadReg (s.gaps (.main 0x7A)) .a (s.reg8 .d) s)

/-- LD A,E (R201). -/
def execLdAE (s : State) : Host.Outcome State Fault Refusal :=
  finish (loadReg (s.gaps (.main 0x7B)) .a (s.reg8 .e) s)

/-- LD A,H (R201). -/
def execLdAH (s : State) : Host.Outcome State Fault Refusal :=
  finish (loadReg (s.gaps (.main 0x7C)) .a (s.reg8 .h) s)

/-- LD A,L (R201). -/
def execLdAL (s : State) : Host.Outcome State Fault Refusal :=
  finish (loadReg (s.gaps (.main 0x7D)) .a (s.reg8 .l) s)

/-- LD A,(HL) (R203). -/
def execLdAMemHl (s : State) : Host.Outcome State Fault Refusal :=
  finish (loadFrom (s.gaps (.main 0x7E)) .a s.hl s)

/-- LD A,A (R201). -/
def execLdAA (s : State) : Host.Outcome State Fault Refusal :=
  finish (loadReg (s.gaps (.main 0x7F)) .a (s.reg8 .a) s)

/-- LDH (a8),A (R211). -/
def execLdhMemA8A (a8 : Byte) (s : State) : Host.Outcome State Fault Refusal :=
  finish (storeTo (s.gaps (.main 0xE0)) (highPage a8) s.cpu.a s)

/-- LD (C),A (R213). -/
def execLdMemCA (s : State) : Host.Outcome State Fault Refusal :=
  finish (storeTo (s.gaps (.main 0xE2)) (highPage s.cpu.c) s.cpu.a s)

/-- LD (a16),A (R209). -/
def execLdMemA16A (a16 : Word) (s : State) : Host.Outcome State Fault Refusal :=
  finish (storeTo (s.gaps (.main 0xEA)) a16 s.cpu.a s)

/-- LDH A,(a8) (R210). -/
def execLdhAMemA8 (a8 : Byte) (s : State) : Host.Outcome State Fault Refusal :=
  finish (loadFrom (s.gaps (.main 0xF0)) .a (highPage a8) s)

/-- LD A,(C) (R212). -/
def execLdAMemC (s : State) : Host.Outcome State Fault Refusal :=
  finish (loadFrom (s.gaps (.main 0xF2)) .a (highPage s.cpu.c) s)

/-- LD A,(a16) (R208). -/
def execLdAMemA16 (a16 : Word) (s : State) : Host.Outcome State Fault Refusal :=
  finish (loadFrom (s.gaps (.main 0xFA)) .a a16 s)

end Sys2Proof.Machine
end

