-- ==== Sys2Proof/Machine/RotateShiftBit.lean ====
section
/-! DEFINITION. Rotates, shifts and bit operations (45_rotate_shift_bit.md R290-R305). -/

namespace Sys2Proof.Machine

/-- The accumulator rotates (R290-R293): Z, N and H are always 0. -/
def rotateA (op : RotOp) (s : State) : State :=
  let r := rotByte op s.cpu.a s.flags.c
  (s.setReg8 .a r.1).setFlags { z := false, n := false, h := false, c := r.2 }

/-- A rotate or shift of the 0xCB page (R294-R302); the flags are written after the operand. -/
def rotate (g : List Nat) (op : RotOp) (o : Operand8) (s : State) : Res Unit :=
  (readOperand g o s).andThen fun v s =>
    let r := rotByte op v s.flags.c
    (writeOperand g o r.1 s).andThen fun _ s => .ok () (s.setFlags (rotFlags r.1 r.2))

/-- BIT (R303): the operand is read, nothing is written back, C is kept. -/
def testBit (g : List Nat) (b : BitVec 3) (o : Operand8) (s : State) : Res Unit :=
  (readOperand g o s).andThen fun v s =>
    .ok () (s.setFlags { z := !v.getLsbD b.toNat, n := false, h := true, c := s.flags.c })

/-- RES and SET (R304, R305): read, modify, write; no flag. -/
def modify (g : List Nat) (f : Byte → Byte) (o : Operand8) (s : State) : Res Unit :=
  (readOperand g o s).andThen fun v s => writeOperand g o (f v) s

/-- `execute_cb(op2)` (R180, R294): the fields of the byte after 0xCB select the group, the operation or
bit number, and the operand. -/
def executeCb (op2 : Byte) (s : State) : Res Unit :=
  let g := s.gaps (.cb op2)
  let y := op2.extractLsb' 3 3
  let o := operandOfField (op2.extractLsb' 0 3)
  match (op2.extractLsb' 6 2).toNat with
  | 0 => rotate g (rotOfField y) o s
  | 1 => testBit g y o s
  | 2 => modify g (resBit y) o s
  | _ => modify g (setBit y) o s

/-- RLCA (R290). -/
def execRlca (s : State) : Host.Outcome State Fault Refusal :=
  finish (settle (s.gaps (.main 0x07)) (rotateA .rlc s))

/-- RRCA (R291). -/
def execRrca (s : State) : Host.Outcome State Fault Refusal :=
  finish (settle (s.gaps (.main 0x0F)) (rotateA .rrc s))

/-- RLA (R292). -/
def execRla (s : State) : Host.Outcome State Fault Refusal :=
  finish (settle (s.gaps (.main 0x17)) (rotateA .rl s))

/-- RRA (R293). -/
def execRra (s : State) : Host.Outcome State Fault Refusal :=
  finish (settle (s.gaps (.main 0x1F)) (rotateA .rr s))

/-- RLC B (R295). -/
def execCbRlcB (s : State) : Host.Outcome State Fault Refusal :=
  finish (rotate (s.gaps (.cb 0x00)) .rlc (.reg .b) s)

/-- RLC C (R295). -/
def execCbRlcC (s : State) : Host.Outcome State Fault Refusal :=
  finish (rotate (s.gaps (.cb 0x01)) .rlc (.reg .c) s)

/-- RLC D (R295). -/
def execCbRlcD (s : State) : Host.Outcome State Fault Refusal :=
  finish (rotate (s.gaps (.cb 0x02)) .rlc (.reg .d) s)

/-- RLC E (R295). -/
def execCbRlcE (s : State) : Host.Outcome State Fault Refusal :=
  finish (rotate (s.gaps (.cb 0x03)) .rlc (.reg .e) s)

/-- RLC H (R295). -/
def execCbRlcH (s : State) : Host.Outcome State Fault Refusal :=
  finish (rotate (s.gaps (.cb 0x04)) .rlc (.reg .h) s)

/-- RLC L (R295). -/
def execCbRlcL (s : State) : Host.Outcome State Fault Refusal :=
  finish (rotate (s.gaps (.cb 0x05)) .rlc (.reg .l) s)

/-- RLC (HL) (R295). -/
def execCbRlcMemHl (s : State) : Host.Outcome State Fault Refusal :=
  finish (rotate (s.gaps (.cb 0x06)) .rlc .memHl s)

/-- RLC A (R295). -/
def execCbRlcA (s : State) : Host.Outcome State Fault Refusal :=
  finish (rotate (s.gaps (.cb 0x07)) .rlc (.reg .a) s)

/-- RRC B (R296). -/
def execCbRrcB (s : State) : Host.Outcome State Fault Refusal :=
  finish (rotate (s.gaps (.cb 0x08)) .rrc (.reg .b) s)

/-- RRC C (R296). -/
def execCbRrcC (s : State) : Host.Outcome State Fault Refusal :=
  finish (rotate (s.gaps (.cb 0x09)) .rrc (.reg .c) s)

/-- RRC D (R296). -/
def execCbRrcD (s : State) : Host.Outcome State Fault Refusal :=
  finish (rotate (s.gaps (.cb 0x0A)) .rrc (.reg .d) s)

/-- RRC E (R296). -/
def execCbRrcE (s : State) : Host.Outcome State Fault Refusal :=
  finish (rotate (s.gaps (.cb 0x0B)) .rrc (.reg .e) s)

/-- RRC H (R296). -/
def execCbRrcH (s : State) : Host.Outcome State Fault Refusal :=
  finish (rotate (s.gaps (.cb 0x0C)) .rrc (.reg .h) s)

/-- RRC L (R296). -/
def execCbRrcL (s : State) : Host.Outcome State Fault Refusal :=
  finish (rotate (s.gaps (.cb 0x0D)) .rrc (.reg .l) s)

/-- RRC (HL) (R296). -/
def execCbRrcMemHl (s : State) : Host.Outcome State Fault Refusal :=
  finish (rotate (s.gaps (.cb 0x0E)) .rrc .memHl s)

/-- RRC A (R296). -/
def execCbRrcA (s : State) : Host.Outcome State Fault Refusal :=
  finish (rotate (s.gaps (.cb 0x0F)) .rrc (.reg .a) s)

/-- RL B (R297). -/
def execCbRlB (s : State) : Host.Outcome State Fault Refusal :=
  finish (rotate (s.gaps (.cb 0x10)) .rl (.reg .b) s)

/-- RL C (R297). -/
def execCbRlC (s : State) : Host.Outcome State Fault Refusal :=
  finish (rotate (s.gaps (.cb 0x11)) .rl (.reg .c) s)

/-- RL D (R297). -/
def execCbRlD (s : State) : Host.Outcome State Fault Refusal :=
  finish (rotate (s.gaps (.cb 0x12)) .rl (.reg .d) s)

/-- RL E (R297). -/
def execCbRlE (s : State) : Host.Outcome State Fault Refusal :=
  finish (rotate (s.gaps (.cb 0x13)) .rl (.reg .e) s)

/-- RL H (R297). -/
def execCbRlH (s : State) : Host.Outcome State Fault Refusal :=
  finish (rotate (s.gaps (.cb 0x14)) .rl (.reg .h) s)

/-- RL L (R297). -/
def execCbRlL (s : State) : Host.Outcome State Fault Refusal :=
  finish (rotate (s.gaps (.cb 0x15)) .rl (.reg .l) s)

/-- RL (HL) (R297). -/
def execCbRlMemHl (s : State) : Host.Outcome State Fault Refusal :=
  finish (rotate (s.gaps (.cb 0x16)) .rl .memHl s)

/-- RL A (R297). -/
def execCbRlA (s : State) : Host.Outcome State Fault Refusal :=
  finish (rotate (s.gaps (.cb 0x17)) .rl (.reg .a) s)

/-- RR B (R298). -/
def execCbRrB (s : State) : Host.Outcome State Fault Refusal :=
  finish (rotate (s.gaps (.cb 0x18)) .rr (.reg .b) s)

/-- RR C (R298). -/
def execCbRrC (s : State) : Host.Outcome State Fault Refusal :=
  finish (rotate (s.gaps (.cb 0x19)) .rr (.reg .c) s)

/-- RR D (R298). -/
def execCbRrD (s : State) : Host.Outcome State Fault Refusal :=
  finish (rotate (s.gaps (.cb 0x1A)) .rr (.reg .d) s)

/-- RR E (R298). -/
def execCbRrE (s : State) : Host.Outcome State Fault Refusal :=
  finish (rotate (s.gaps (.cb 0x1B)) .rr (.reg .e) s)

/-- RR H (R298). -/
def execCbRrH (s : State) : Host.Outcome State Fault Refusal :=
  finish (rotate (s.gaps (.cb 0x1C)) .rr (.reg .h) s)

/-- RR L (R298). -/
def execCbRrL (s : State) : Host.Outcome State Fault Refusal :=
  finish (rotate (s.gaps (.cb 0x1D)) .rr (.reg .l) s)

/-- RR (HL) (R298). -/
def execCbRrMemHl (s : State) : Host.Outcome State Fault Refusal :=
  finish (rotate (s.gaps (.cb 0x1E)) .rr .memHl s)

/-- RR A (R298). -/
def execCbRrA (s : State) : Host.Outcome State Fault Refusal :=
  finish (rotate (s.gaps (.cb 0x1F)) .rr (.reg .a) s)

/-- SLA B (R299). -/
def execCbSlaB (s : State) : Host.Outcome State Fault Refusal :=
  finish (rotate (s.gaps (.cb 0x20)) .sla (.reg .b) s)

/-- SLA C (R299). -/
def execCbSlaC (s : State) : Host.Outcome State Fault Refusal :=
  finish (rotate (s.gaps (.cb 0x21)) .sla (.reg .c) s)

/-- SLA D (R299). -/
def execCbSlaD (s : State) : Host.Outcome State Fault Refusal :=
  finish (rotate (s.gaps (.cb 0x22)) .sla (.reg .d) s)

/-- SLA E (R299). -/
def execCbSlaE (s : State) : Host.Outcome State Fault Refusal :=
  finish (rotate (s.gaps (.cb 0x23)) .sla (.reg .e) s)

/-- SLA H (R299). -/
def execCbSlaH (s : State) : Host.Outcome State Fault Refusal :=
  finish (rotate (s.gaps (.cb 0x24)) .sla (.reg .h) s)

/-- SLA L (R299). -/
def execCbSlaL (s : State) : Host.Outcome State Fault Refusal :=
  finish (rotate (s.gaps (.cb 0x25)) .sla (.reg .l) s)

/-- SLA (HL) (R299). -/
def execCbSlaMemHl (s : State) : Host.Outcome State Fault Refusal :=
  finish (rotate (s.gaps (.cb 0x26)) .sla .memHl s)

/-- SLA A (R299). -/
def execCbSlaA (s : State) : Host.Outcome State Fault Refusal :=
  finish (rotate (s.gaps (.cb 0x27)) .sla (.reg .a) s)

/-- SRA B (R300). -/
def execCbSraB (s : State) : Host.Outcome State Fault Refusal :=
  finish (rotate (s.gaps (.cb 0x28)) .sra (.reg .b) s)

/-- SRA C (R300). -/
def execCbSraC (s : State) : Host.Outcome State Fault Refusal :=
  finish (rotate (s.gaps (.cb 0x29)) .sra (.reg .c) s)

/-- SRA D (R300). -/
def execCbSraD (s : State) : Host.Outcome State Fault Refusal :=
  finish (rotate (s.gaps (.cb 0x2A)) .sra (.reg .d) s)

/-- SRA E (R300). -/
def execCbSraE (s : State) : Host.Outcome State Fault Refusal :=
  finish (rotate (s.gaps (.cb 0x2B)) .sra (.reg .e) s)

/-- SRA H (R300). -/
def execCbSraH (s : State) : Host.Outcome State Fault Refusal :=
  finish (rotate (s.gaps (.cb 0x2C)) .sra (.reg .h) s)

/-- SRA L (R300). -/
def execCbSraL (s : State) : Host.Outcome State Fault Refusal :=
  finish (rotate (s.gaps (.cb 0x2D)) .sra (.reg .l) s)

/-- SRA (HL) (R300). -/
def execCbSraMemHl (s : State) : Host.Outcome State Fault Refusal :=
  finish (rotate (s.gaps (.cb 0x2E)) .sra .memHl s)

/-- SRA A (R300). -/
def execCbSraA (s : State) : Host.Outcome State Fault Refusal :=
  finish (rotate (s.gaps (.cb 0x2F)) .sra (.reg .a) s)

/-- SWAP B (R301). -/
def execCbSwapB (s : State) : Host.Outcome State Fault Refusal :=
  finish (rotate (s.gaps (.cb 0x30)) .swap (.reg .b) s)

/-- SWAP C (R301). -/
def execCbSwapC (s : State) : Host.Outcome State Fault Refusal :=
  finish (rotate (s.gaps (.cb 0x31)) .swap (.reg .c) s)

/-- SWAP D (R301). -/
def execCbSwapD (s : State) : Host.Outcome State Fault Refusal :=
  finish (rotate (s.gaps (.cb 0x32)) .swap (.reg .d) s)

/-- SWAP E (R301). -/
def execCbSwapE (s : State) : Host.Outcome State Fault Refusal :=
  finish (rotate (s.gaps (.cb 0x33)) .swap (.reg .e) s)

/-- SWAP H (R301). -/
def execCbSwapH (s : State) : Host.Outcome State Fault Refusal :=
  finish (rotate (s.gaps (.cb 0x34)) .swap (.reg .h) s)

/-- SWAP L (R301). -/
def execCbSwapL (s : State) : Host.Outcome State Fault Refusal :=
  finish (rotate (s.gaps (.cb 0x35)) .swap (.reg .l) s)

/-- SWAP (HL) (R301). -/
def execCbSwapMemHl (s : State) : Host.Outcome State Fault Refusal :=
  finish (rotate (s.gaps (.cb 0x36)) .swap .memHl s)

/-- SWAP A (R301). -/
def execCbSwapA (s : State) : Host.Outcome State Fault Refusal :=
  finish (rotate (s.gaps (.cb 0x37)) .swap (.reg .a) s)

/-- SRL B (R302). -/
def execCbSrlB (s : State) : Host.Outcome State Fault Refusal :=
  finish (rotate (s.gaps (.cb 0x38)) .srl (.reg .b) s)

/-- SRL C (R302). -/
def execCbSrlC (s : State) : Host.Outcome State Fault Refusal :=
  finish (rotate (s.gaps (.cb 0x39)) .srl (.reg .c) s)

/-- SRL D (R302). -/
def execCbSrlD (s : State) : Host.Outcome State Fault Refusal :=
  finish (rotate (s.gaps (.cb 0x3A)) .srl (.reg .d) s)

/-- SRL E (R302). -/
def execCbSrlE (s : State) : Host.Outcome State Fault Refusal :=
  finish (rotate (s.gaps (.cb 0x3B)) .srl (.reg .e) s)

/-- SRL H (R302). -/
def execCbSrlH (s : State) : Host.Outcome State Fault Refusal :=
  finish (rotate (s.gaps (.cb 0x3C)) .srl (.reg .h) s)

/-- SRL L (R302). -/
def execCbSrlL (s : State) : Host.Outcome State Fault Refusal :=
  finish (rotate (s.gaps (.cb 0x3D)) .srl (.reg .l) s)

/-- SRL (HL) (R302). -/
def execCbSrlMemHl (s : State) : Host.Outcome State Fault Refusal :=
  finish (rotate (s.gaps (.cb 0x3E)) .srl .memHl s)

/-- SRL A (R302). -/
def execCbSrlA (s : State) : Host.Outcome State Fault Refusal :=
  finish (rotate (s.gaps (.cb 0x3F)) .srl (.reg .a) s)

/-- BIT 0,B (R303). -/
def execCbBit0B (s : State) : Host.Outcome State Fault Refusal :=
  finish (testBit (s.gaps (.cb 0x40)) 0 (.reg .b) s)

/-- BIT 0,C (R303). -/
def execCbBit0C (s : State) : Host.Outcome State Fault Refusal :=
  finish (testBit (s.gaps (.cb 0x41)) 0 (.reg .c) s)

/-- BIT 0,D (R303). -/
def execCbBit0D (s : State) : Host.Outcome State Fault Refusal :=
  finish (testBit (s.gaps (.cb 0x42)) 0 (.reg .d) s)

/-- BIT 0,E (R303). -/
def execCbBit0E (s : State) : Host.Outcome State Fault Refusal :=
  finish (testBit (s.gaps (.cb 0x43)) 0 (.reg .e) s)

/-- BIT 0,H (R303). -/
def execCbBit0H (s : State) : Host.Outcome State Fault Refusal :=
  finish (testBit (s.gaps (.cb 0x44)) 0 (.reg .h) s)

/-- BIT 0,L (R303). -/
def execCbBit0L (s : State) : Host.Outcome State Fault Refusal :=
  finish (testBit (s.gaps (.cb 0x45)) 0 (.reg .l) s)

/-- BIT 0,(HL) (R303). -/
def execCbBit0MemHl (s : State) : Host.Outcome State Fault Refusal :=
  finish (testBit (s.gaps (.cb 0x46)) 0 .memHl s)

/-- BIT 0,A (R303). -/
def execCbBit0A (s : State) : Host.Outcome State Fault Refusal :=
  finish (testBit (s.gaps (.cb 0x47)) 0 (.reg .a) s)

/-- BIT 1,B (R303). -/
def execCbBit1B (s : State) : Host.Outcome State Fault Refusal :=
  finish (testBit (s.gaps (.cb 0x48)) 1 (.reg .b) s)

/-- BIT 1,C (R303). -/
def execCbBit1C (s : State) : Host.Outcome State Fault Refusal :=
  finish (testBit (s.gaps (.cb 0x49)) 1 (.reg .c) s)

/-- BIT 1,D (R303). -/
def execCbBit1D (s : State) : Host.Outcome State Fault Refusal :=
  finish (testBit (s.gaps (.cb 0x4A)) 1 (.reg .d) s)

/-- BIT 1,E (R303). -/
def execCbBit1E (s : State) : Host.Outcome State Fault Refusal :=
  finish (testBit (s.gaps (.cb 0x4B)) 1 (.reg .e) s)

/-- BIT 1,H (R303). -/
def execCbBit1H (s : State) : Host.Outcome State Fault Refusal :=
  finish (testBit (s.gaps (.cb 0x4C)) 1 (.reg .h) s)

/-- BIT 1,L (R303). -/
def execCbBit1L (s : State) : Host.Outcome State Fault Refusal :=
  finish (testBit (s.gaps (.cb 0x4D)) 1 (.reg .l) s)

/-- BIT 1,(HL) (R303). -/
def execCbBit1MemHl (s : State) : Host.Outcome State Fault Refusal :=
  finish (testBit (s.gaps (.cb 0x4E)) 1 .memHl s)

/-- BIT 1,A (R303). -/
def execCbBit1A (s : State) : Host.Outcome State Fault Refusal :=
  finish (testBit (s.gaps (.cb 0x4F)) 1 (.reg .a) s)

/-- BIT 2,B (R303). -/
def execCbBit2B (s : State) : Host.Outcome State Fault Refusal :=
  finish (testBit (s.gaps (.cb 0x50)) 2 (.reg .b) s)

/-- BIT 2,C (R303). -/
def execCbBit2C (s : State) : Host.Outcome State Fault Refusal :=
  finish (testBit (s.gaps (.cb 0x51)) 2 (.reg .c) s)

/-- BIT 2,D (R303). -/
def execCbBit2D (s : State) : Host.Outcome State Fault Refusal :=
  finish (testBit (s.gaps (.cb 0x52)) 2 (.reg .d) s)

/-- BIT 2,E (R303). -/
def execCbBit2E (s : State) : Host.Outcome State Fault Refusal :=
  finish (testBit (s.gaps (.cb 0x53)) 2 (.reg .e) s)

/-- BIT 2,H (R303). -/
def execCbBit2H (s : State) : Host.Outcome State Fault Refusal :=
  finish (testBit (s.gaps (.cb 0x54)) 2 (.reg .h) s)

/-- BIT 2,L (R303). -/
def execCbBit2L (s : State) : Host.Outcome State Fault Refusal :=
  finish (testBit (s.gaps (.cb 0x55)) 2 (.reg .l) s)

/-- BIT 2,(HL) (R303). -/
def execCbBit2MemHl (s : State) : Host.Outcome State Fault Refusal :=
  finish (testBit (s.gaps (.cb 0x56)) 2 .memHl s)

/-- BIT 2,A (R303). -/
def execCbBit2A (s : State) : Host.Outcome State Fault Refusal :=
  finish (testBit (s.gaps (.cb 0x57)) 2 (.reg .a) s)

/-- BIT 3,B (R303). -/
def execCbBit3B (s : State) : Host.Outcome State Fault Refusal :=
  finish (testBit (s.gaps (.cb 0x58)) 3 (.reg .b) s)

/-- BIT 3,C (R303). -/
def execCbBit3C (s : State) : Host.Outcome State Fault Refusal :=
  finish (testBit (s.gaps (.cb 0x59)) 3 (.reg .c) s)

/-- BIT 3,D (R303). -/
def execCbBit3D (s : State) : Host.Outcome State Fault Refusal :=
  finish (testBit (s.gaps (.cb 0x5A)) 3 (.reg .d) s)

/-- BIT 3,E (R303). -/
def execCbBit3E (s : State) : Host.Outcome State Fault Refusal :=
  finish (testBit (s.gaps (.cb 0x5B)) 3 (.reg .e) s)

/-- BIT 3,H (R303). -/
def execCbBit3H (s : State) : Host.Outcome State Fault Refusal :=
  finish (testBit (s.gaps (.cb 0x5C)) 3 (.reg .h) s)

/-- BIT 3,L (R303). -/
def execCbBit3L (s : State) : Host.Outcome State Fault Refusal :=
  finish (testBit (s.gaps (.cb 0x5D)) 3 (.reg .l) s)

/-- BIT 3,(HL) (R303). -/
def execCbBit3MemHl (s : State) : Host.Outcome State Fault Refusal :=
  finish (testBit (s.gaps (.cb 0x5E)) 3 .memHl s)

/-- BIT 3,A (R303). -/
def execCbBit3A (s : State) : Host.Outcome State Fault Refusal :=
  finish (testBit (s.gaps (.cb 0x5F)) 3 (.reg .a) s)

/-- BIT 4,B (R303). -/
def execCbBit4B (s : State) : Host.Outcome State Fault Refusal :=
  finish (testBit (s.gaps (.cb 0x60)) 4 (.reg .b) s)

/-- BIT 4,C (R303). -/
def execCbBit4C (s : State) : Host.Outcome State Fault Refusal :=
  finish (testBit (s.gaps (.cb 0x61)) 4 (.reg .c) s)

/-- BIT 4,D (R303). -/
def execCbBit4D (s : State) : Host.Outcome State Fault Refusal :=
  finish (testBit (s.gaps (.cb 0x62)) 4 (.reg .d) s)

/-- BIT 4,E (R303). -/
def execCbBit4E (s : State) : Host.Outcome State Fault Refusal :=
  finish (testBit (s.gaps (.cb 0x63)) 4 (.reg .e) s)

/-- BIT 4,H (R303). -/
def execCbBit4H (s : State) : Host.Outcome State Fault Refusal :=
  finish (testBit (s.gaps (.cb 0x64)) 4 (.reg .h) s)

/-- BIT 4,L (R303). -/
def execCbBit4L (s : State) : Host.Outcome State Fault Refusal :=
  finish (testBit (s.gaps (.cb 0x65)) 4 (.reg .l) s)

/-- BIT 4,(HL) (R303). -/
def execCbBit4MemHl (s : State) : Host.Outcome State Fault Refusal :=
  finish (testBit (s.gaps (.cb 0x66)) 4 .memHl s)

/-- BIT 4,A (R303). -/
def execCbBit4A (s : State) : Host.Outcome State Fault Refusal :=
  finish (testBit (s.gaps (.cb 0x67)) 4 (.reg .a) s)

/-- BIT 5,B (R303). -/
def execCbBit5B (s : State) : Host.Outcome State Fault Refusal :=
  finish (testBit (s.gaps (.cb 0x68)) 5 (.reg .b) s)

/-- BIT 5,C (R303). -/
def execCbBit5C (s : State) : Host.Outcome State Fault Refusal :=
  finish (testBit (s.gaps (.cb 0x69)) 5 (.reg .c) s)

/-- BIT 5,D (R303). -/
def execCbBit5D (s : State) : Host.Outcome State Fault Refusal :=
  finish (testBit (s.gaps (.cb 0x6A)) 5 (.reg .d) s)

/-- BIT 5,E (R303). -/
def execCbBit5E (s : State) : Host.Outcome State Fault Refusal :=
  finish (testBit (s.gaps (.cb 0x6B)) 5 (.reg .e) s)

/-- BIT 5,H (R303). -/
def execCbBit5H (s : State) : Host.Outcome State Fault Refusal :=
  finish (testBit (s.gaps (.cb 0x6C)) 5 (.reg .h) s)

/-- BIT 5,L (R303). -/
def execCbBit5L (s : State) : Host.Outcome State Fault Refusal :=
  finish (testBit (s.gaps (.cb 0x6D)) 5 (.reg .l) s)

/-- BIT 5,(HL) (R303). -/
def execCbBit5MemHl (s : State) : Host.Outcome State Fault Refusal :=
  finish (testBit (s.gaps (.cb 0x6E)) 5 .memHl s)

/-- BIT 5,A (R303). -/
def execCbBit5A (s : State) : Host.Outcome State Fault Refusal :=
  finish (testBit (s.gaps (.cb 0x6F)) 5 (.reg .a) s)

/-- BIT 6,B (R303). -/
def execCbBit6B (s : State) : Host.Outcome State Fault Refusal :=
  finish (testBit (s.gaps (.cb 0x70)) 6 (.reg .b) s)

/-- BIT 6,C (R303). -/
def execCbBit6C (s : State) : Host.Outcome State Fault Refusal :=
  finish (testBit (s.gaps (.cb 0x71)) 6 (.reg .c) s)

/-- BIT 6,D (R303). -/
def execCbBit6D (s : State) : Host.Outcome State Fault Refusal :=
  finish (testBit (s.gaps (.cb 0x72)) 6 (.reg .d) s)

/-- BIT 6,E (R303). -/
def execCbBit6E (s : State) : Host.Outcome State Fault Refusal :=
  finish (testBit (s.gaps (.cb 0x73)) 6 (.reg .e) s)

/-- BIT 6,H (R303). -/
def execCbBit6H (s : State) : Host.Outcome State Fault Refusal :=
  finish (testBit (s.gaps (.cb 0x74)) 6 (.reg .h) s)

/-- BIT 6,L (R303). -/
def execCbBit6L (s : State) : Host.Outcome State Fault Refusal :=
  finish (testBit (s.gaps (.cb 0x75)) 6 (.reg .l) s)

/-- BIT 6,(HL) (R303). -/
def execCbBit6MemHl (s : State) : Host.Outcome State Fault Refusal :=
  finish (testBit (s.gaps (.cb 0x76)) 6 .memHl s)

/-- BIT 6,A (R303). -/
def execCbBit6A (s : State) : Host.Outcome State Fault Refusal :=
  finish (testBit (s.gaps (.cb 0x77)) 6 (.reg .a) s)

/-- BIT 7,B (R303). -/
def execCbBit7B (s : State) : Host.Outcome State Fault Refusal :=
  finish (testBit (s.gaps (.cb 0x78)) 7 (.reg .b) s)

/-- BIT 7,C (R303). -/
def execCbBit7C (s : State) : Host.Outcome State Fault Refusal :=
  finish (testBit (s.gaps (.cb 0x79)) 7 (.reg .c) s)

/-- BIT 7,D (R303). -/
def execCbBit7D (s : State) : Host.Outcome State Fault Refusal :=
  finish (testBit (s.gaps (.cb 0x7A)) 7 (.reg .d) s)

/-- BIT 7,E (R303). -/
def execCbBit7E (s : State) : Host.Outcome State Fault Refusal :=
  finish (testBit (s.gaps (.cb 0x7B)) 7 (.reg .e) s)

/-- BIT 7,H (R303). -/
def execCbBit7H (s : State) : Host.Outcome State Fault Refusal :=
  finish (testBit (s.gaps (.cb 0x7C)) 7 (.reg .h) s)

/-- BIT 7,L (R303). -/
def execCbBit7L (s : State) : Host.Outcome State Fault Refusal :=
  finish (testBit (s.gaps (.cb 0x7D)) 7 (.reg .l) s)

/-- BIT 7,(HL) (R303). -/
def execCbBit7MemHl (s : State) : Host.Outcome State Fault Refusal :=
  finish (testBit (s.gaps (.cb 0x7E)) 7 .memHl s)

/-- BIT 7,A (R303). -/
def execCbBit7A (s : State) : Host.Outcome State Fault Refusal :=
  finish (testBit (s.gaps (.cb 0x7F)) 7 (.reg .a) s)

/-- RES 0,B (R304). -/
def execCbRes0B (s : State) : Host.Outcome State Fault Refusal :=
  finish (modify (s.gaps (.cb 0x80)) (resBit 0) (.reg .b) s)

/-- RES 0,C (R304). -/
def execCbRes0C (s : State) : Host.Outcome State Fault Refusal :=
  finish (modify (s.gaps (.cb 0x81)) (resBit 0) (.reg .c) s)

/-- RES 0,D (R304). -/
def execCbRes0D (s : State) : Host.Outcome State Fault Refusal :=
  finish (modify (s.gaps (.cb 0x82)) (resBit 0) (.reg .d) s)

/-- RES 0,E (R304). -/
def execCbRes0E (s : State) : Host.Outcome State Fault Refusal :=
  finish (modify (s.gaps (.cb 0x83)) (resBit 0) (.reg .e) s)

/-- RES 0,H (R304). -/
def execCbRes0H (s : State) : Host.Outcome State Fault Refusal :=
  finish (modify (s.gaps (.cb 0x84)) (resBit 0) (.reg .h) s)

/-- RES 0,L (R304). -/
def execCbRes0L (s : State) : Host.Outcome State Fault Refusal :=
  finish (modify (s.gaps (.cb 0x85)) (resBit 0) (.reg .l) s)

/-- RES 0,(HL) (R304). -/
def execCbRes0MemHl (s : State) : Host.Outcome State Fault Refusal :=
  finish (modify (s.gaps (.cb 0x86)) (resBit 0) .memHl s)

/-- RES 0,A (R304). -/
def execCbRes0A (s : State) : Host.Outcome State Fault Refusal :=
  finish (modify (s.gaps (.cb 0x87)) (resBit 0) (.reg .a) s)

/-- RES 1,B (R304). -/
def execCbRes1B (s : State) : Host.Outcome State Fault Refusal :=
  finish (modify (s.gaps (.cb 0x88)) (resBit 1) (.reg .b) s)

/-- RES 1,C (R304). -/
def execCbRes1C (s : State) : Host.Outcome State Fault Refusal :=
  finish (modify (s.gaps (.cb 0x89)) (resBit 1) (.reg .c) s)

/-- RES 1,D (R304). -/
def execCbRes1D (s : State) : Host.Outcome State Fault Refusal :=
  finish (modify (s.gaps (.cb 0x8A)) (resBit 1) (.reg .d) s)

/-- RES 1,E (R304). -/
def execCbRes1E (s : State) : Host.Outcome State Fault Refusal :=
  finish (modify (s.gaps (.cb 0x8B)) (resBit 1) (.reg .e) s)

/-- RES 1,H (R304). -/
def execCbRes1H (s : State) : Host.Outcome State Fault Refusal :=
  finish (modify (s.gaps (.cb 0x8C)) (resBit 1) (.reg .h) s)

/-- RES 1,L (R304). -/
def execCbRes1L (s : State) : Host.Outcome State Fault Refusal :=
  finish (modify (s.gaps (.cb 0x8D)) (resBit 1) (.reg .l) s)

/-- RES 1,(HL) (R304). -/
def execCbRes1MemHl (s : State) : Host.Outcome State Fault Refusal :=
  finish (modify (s.gaps (.cb 0x8E)) (resBit 1) .memHl s)

/-- RES 1,A (R304). -/
def execCbRes1A (s : State) : Host.Outcome State Fault Refusal :=
  finish (modify (s.gaps (.cb 0x8F)) (resBit 1) (.reg .a) s)

/-- RES 2,B (R304). -/
def execCbRes2B (s : State) : Host.Outcome State Fault Refusal :=
  finish (modify (s.gaps (.cb 0x90)) (resBit 2) (.reg .b) s)

/-- RES 2,C (R304). -/
def execCbRes2C (s : State) : Host.Outcome State Fault Refusal :=
  finish (modify (s.gaps (.cb 0x91)) (resBit 2) (.reg .c) s)

/-- RES 2,D (R304). -/
def execCbRes2D (s : State) : Host.Outcome State Fault Refusal :=
  finish (modify (s.gaps (.cb 0x92)) (resBit 2) (.reg .d) s)

/-- RES 2,E (R304). -/
def execCbRes2E (s : State) : Host.Outcome State Fault Refusal :=
  finish (modify (s.gaps (.cb 0x93)) (resBit 2) (.reg .e) s)

/-- RES 2,H (R304). -/
def execCbRes2H (s : State) : Host.Outcome State Fault Refusal :=
  finish (modify (s.gaps (.cb 0x94)) (resBit 2) (.reg .h) s)

/-- RES 2,L (R304). -/
def execCbRes2L (s : State) : Host.Outcome State Fault Refusal :=
  finish (modify (s.gaps (.cb 0x95)) (resBit 2) (.reg .l) s)

/-- RES 2,(HL) (R304). -/
def execCbRes2MemHl (s : State) : Host.Outcome State Fault Refusal :=
  finish (modify (s.gaps (.cb 0x96)) (resBit 2) .memHl s)

/-- RES 2,A (R304). -/
def execCbRes2A (s : State) : Host.Outcome State Fault Refusal :=
  finish (modify (s.gaps (.cb 0x97)) (resBit 2) (.reg .a) s)

/-- RES 3,B (R304). -/
def execCbRes3B (s : State) : Host.Outcome State Fault Refusal :=
  finish (modify (s.gaps (.cb 0x98)) (resBit 3) (.reg .b) s)

/-- RES 3,C (R304). -/
def execCbRes3C (s : State) : Host.Outcome State Fault Refusal :=
  finish (modify (s.gaps (.cb 0x99)) (resBit 3) (.reg .c) s)

/-- RES 3,D (R304). -/
def execCbRes3D (s : State) : Host.Outcome State Fault Refusal :=
  finish (modify (s.gaps (.cb 0x9A)) (resBit 3) (.reg .d) s)

/-- RES 3,E (R304). -/
def execCbRes3E (s : State) : Host.Outcome State Fault Refusal :=
  finish (modify (s.gaps (.cb 0x9B)) (resBit 3) (.reg .e) s)

/-- RES 3,H (R304). -/
def execCbRes3H (s : State) : Host.Outcome State Fault Refusal :=
  finish (modify (s.gaps (.cb 0x9C)) (resBit 3) (.reg .h) s)

/-- RES 3,L (R304). -/
def execCbRes3L (s : State) : Host.Outcome State Fault Refusal :=
  finish (modify (s.gaps (.cb 0x9D)) (resBit 3) (.reg .l) s)

/-- RES 3,(HL) (R304). -/
def execCbRes3MemHl (s : State) : Host.Outcome State Fault Refusal :=
  finish (modify (s.gaps (.cb 0x9E)) (resBit 3) .memHl s)

/-- RES 3,A (R304). -/
def execCbRes3A (s : State) : Host.Outcome State Fault Refusal :=
  finish (modify (s.gaps (.cb 0x9F)) (resBit 3) (.reg .a) s)

/-- RES 4,B (R304). -/
def execCbRes4B (s : State) : Host.Outcome State Fault Refusal :=
  finish (modify (s.gaps (.cb 0xA0)) (resBit 4) (.reg .b) s)

/-- RES 4,C (R304). -/
def execCbRes4C (s : State) : Host.Outcome State Fault Refusal :=
  finish (modify (s.gaps (.cb 0xA1)) (resBit 4) (.reg .c) s)

/-- RES 4,D (R304). -/
def execCbRes4D (s : State) : Host.Outcome State Fault Refusal :=
  finish (modify (s.gaps (.cb 0xA2)) (resBit 4) (.reg .d) s)

/-- RES 4,E (R304). -/
def execCbRes4E (s : State) : Host.Outcome State Fault Refusal :=
  finish (modify (s.gaps (.cb 0xA3)) (resBit 4) (.reg .e) s)

/-- RES 4,H (R304). -/
def execCbRes4H (s : State) : Host.Outcome State Fault Refusal :=
  finish (modify (s.gaps (.cb 0xA4)) (resBit 4) (.reg .h) s)

/-- RES 4,L (R304). -/
def execCbRes4L (s : State) : Host.Outcome State Fault Refusal :=
  finish (modify (s.gaps (.cb 0xA5)) (resBit 4) (.reg .l) s)

/-- RES 4,(HL) (R304). -/
def execCbRes4MemHl (s : State) : Host.Outcome State Fault Refusal :=
  finish (modify (s.gaps (.cb 0xA6)) (resBit 4) .memHl s)

/-- RES 4,A (R304). -/
def execCbRes4A (s : State) : Host.Outcome State Fault Refusal :=
  finish (modify (s.gaps (.cb 0xA7)) (resBit 4) (.reg .a) s)

/-- RES 5,B (R304). -/
def execCbRes5B (s : State) : Host.Outcome State Fault Refusal :=
  finish (modify (s.gaps (.cb 0xA8)) (resBit 5) (.reg .b) s)

/-- RES 5,C (R304). -/
def execCbRes5C (s : State) : Host.Outcome State Fault Refusal :=
  finish (modify (s.gaps (.cb 0xA9)) (resBit 5) (.reg .c) s)

/-- RES 5,D (R304). -/
def execCbRes5D (s : State) : Host.Outcome State Fault Refusal :=
  finish (modify (s.gaps (.cb 0xAA)) (resBit 5) (.reg .d) s)

/-- RES 5,E (R304). -/
def execCbRes5E (s : State) : Host.Outcome State Fault Refusal :=
  finish (modify (s.gaps (.cb 0xAB)) (resBit 5) (.reg .e) s)

/-- RES 5,H (R304). -/
def execCbRes5H (s : State) : Host.Outcome State Fault Refusal :=
  finish (modify (s.gaps (.cb 0xAC)) (resBit 5) (.reg .h) s)

/-- RES 5,L (R304). -/
def execCbRes5L (s : State) : Host.Outcome State Fault Refusal :=
  finish (modify (s.gaps (.cb 0xAD)) (resBit 5) (.reg .l) s)

/-- RES 5,(HL) (R304). -/
def execCbRes5MemHl (s : State) : Host.Outcome State Fault Refusal :=
  finish (modify (s.gaps (.cb 0xAE)) (resBit 5) .memHl s)

/-- RES 5,A (R304). -/
def execCbRes5A (s : State) : Host.Outcome State Fault Refusal :=
  finish (modify (s.gaps (.cb 0xAF)) (resBit 5) (.reg .a) s)

/-- RES 6,B (R304). -/
def execCbRes6B (s : State) : Host.Outcome State Fault Refusal :=
  finish (modify (s.gaps (.cb 0xB0)) (resBit 6) (.reg .b) s)

/-- RES 6,C (R304). -/
def execCbRes6C (s : State) : Host.Outcome State Fault Refusal :=
  finish (modify (s.gaps (.cb 0xB1)) (resBit 6) (.reg .c) s)

/-- RES 6,D (R304). -/
def execCbRes6D (s : State) : Host.Outcome State Fault Refusal :=
  finish (modify (s.gaps (.cb 0xB2)) (resBit 6) (.reg .d) s)

/-- RES 6,E (R304). -/
def execCbRes6E (s : State) : Host.Outcome State Fault Refusal :=
  finish (modify (s.gaps (.cb 0xB3)) (resBit 6) (.reg .e) s)

/-- RES 6,H (R304). -/
def execCbRes6H (s : State) : Host.Outcome State Fault Refusal :=
  finish (modify (s.gaps (.cb 0xB4)) (resBit 6) (.reg .h) s)

/-- RES 6,L (R304). -/
def execCbRes6L (s : State) : Host.Outcome State Fault Refusal :=
  finish (modify (s.gaps (.cb 0xB5)) (resBit 6) (.reg .l) s)

/-- RES 6,(HL) (R304). -/
def execCbRes6MemHl (s : State) : Host.Outcome State Fault Refusal :=
  finish (modify (s.gaps (.cb 0xB6)) (resBit 6) .memHl s)

/-- RES 6,A (R304). -/
def execCbRes6A (s : State) : Host.Outcome State Fault Refusal :=
  finish (modify (s.gaps (.cb 0xB7)) (resBit 6) (.reg .a) s)

/-- RES 7,B (R304). -/
def execCbRes7B (s : State) : Host.Outcome State Fault Refusal :=
  finish (modify (s.gaps (.cb 0xB8)) (resBit 7) (.reg .b) s)

/-- RES 7,C (R304). -/
def execCbRes7C (s : State) : Host.Outcome State Fault Refusal :=
  finish (modify (s.gaps (.cb 0xB9)) (resBit 7) (.reg .c) s)

/-- RES 7,D (R304). -/
def execCbRes7D (s : State) : Host.Outcome State Fault Refusal :=
  finish (modify (s.gaps (.cb 0xBA)) (resBit 7) (.reg .d) s)

/-- RES 7,E (R304). -/
def execCbRes7E (s : State) : Host.Outcome State Fault Refusal :=
  finish (modify (s.gaps (.cb 0xBB)) (resBit 7) (.reg .e) s)

/-- RES 7,H (R304). -/
def execCbRes7H (s : State) : Host.Outcome State Fault Refusal :=
  finish (modify (s.gaps (.cb 0xBC)) (resBit 7) (.reg .h) s)

/-- RES 7,L (R304). -/
def execCbRes7L (s : State) : Host.Outcome State Fault Refusal :=
  finish (modify (s.gaps (.cb 0xBD)) (resBit 7) (.reg .l) s)

/-- RES 7,(HL) (R304). -/
def execCbRes7MemHl (s : State) : Host.Outcome State Fault Refusal :=
  finish (modify (s.gaps (.cb 0xBE)) (resBit 7) .memHl s)

/-- RES 7,A (R304). -/
def execCbRes7A (s : State) : Host.Outcome State Fault Refusal :=
  finish (modify (s.gaps (.cb 0xBF)) (resBit 7) (.reg .a) s)

/-- SET 0,B (R305). -/
def execCbSet0B (s : State) : Host.Outcome State Fault Refusal :=
  finish (modify (s.gaps (.cb 0xC0)) (setBit 0) (.reg .b) s)

/-- SET 0,C (R305). -/
def execCbSet0C (s : State) : Host.Outcome State Fault Refusal :=
  finish (modify (s.gaps (.cb 0xC1)) (setBit 0) (.reg .c) s)

/-- SET 0,D (R305). -/
def execCbSet0D (s : State) : Host.Outcome State Fault Refusal :=
  finish (modify (s.gaps (.cb 0xC2)) (setBit 0) (.reg .d) s)

/-- SET 0,E (R305). -/
def execCbSet0E (s : State) : Host.Outcome State Fault Refusal :=
  finish (modify (s.gaps (.cb 0xC3)) (setBit 0) (.reg .e) s)

/-- SET 0,H (R305). -/
def execCbSet0H (s : State) : Host.Outcome State Fault Refusal :=
  finish (modify (s.gaps (.cb 0xC4)) (setBit 0) (.reg .h) s)

/-- SET 0,L (R305). -/
def execCbSet0L (s : State) : Host.Outcome State Fault Refusal :=
  finish (modify (s.gaps (.cb 0xC5)) (setBit 0) (.reg .l) s)

/-- SET 0,(HL) (R305). -/
def execCbSet0MemHl (s : State) : Host.Outcome State Fault Refusal :=
  finish (modify (s.gaps (.cb 0xC6)) (setBit 0) .memHl s)

/-- SET 0,A (R305). -/
def execCbSet0A (s : State) : Host.Outcome State Fault Refusal :=
  finish (modify (s.gaps (.cb 0xC7)) (setBit 0) (.reg .a) s)

/-- SET 1,B (R305). -/
def execCbSet1B (s : State) : Host.Outcome State Fault Refusal :=
  finish (modify (s.gaps (.cb 0xC8)) (setBit 1) (.reg .b) s)

/-- SET 1,C (R305). -/
def execCbSet1C (s : State) : Host.Outcome State Fault Refusal :=
  finish (modify (s.gaps (.cb 0xC9)) (setBit 1) (.reg .c) s)

/-- SET 1,D (R305). -/
def execCbSet1D (s : State) : Host.Outcome State Fault Refusal :=
  finish (modify (s.gaps (.cb 0xCA)) (setBit 1) (.reg .d) s)

/-- SET 1,E (R305). -/
def execCbSet1E (s : State) : Host.Outcome State Fault Refusal :=
  finish (modify (s.gaps (.cb 0xCB)) (setBit 1) (.reg .e) s)

/-- SET 1,H (R305). -/
def execCbSet1H (s : State) : Host.Outcome State Fault Refusal :=
  finish (modify (s.gaps (.cb 0xCC)) (setBit 1) (.reg .h) s)

/-- SET 1,L (R305). -/
def execCbSet1L (s : State) : Host.Outcome State Fault Refusal :=
  finish (modify (s.gaps (.cb 0xCD)) (setBit 1) (.reg .l) s)

/-- SET 1,(HL) (R305). -/
def execCbSet1MemHl (s : State) : Host.Outcome State Fault Refusal :=
  finish (modify (s.gaps (.cb 0xCE)) (setBit 1) .memHl s)

/-- SET 1,A (R305). -/
def execCbSet1A (s : State) : Host.Outcome State Fault Refusal :=
  finish (modify (s.gaps (.cb 0xCF)) (setBit 1) (.reg .a) s)

/-- SET 2,B (R305). -/
def execCbSet2B (s : State) : Host.Outcome State Fault Refusal :=
  finish (modify (s.gaps (.cb 0xD0)) (setBit 2) (.reg .b) s)

/-- SET 2,C (R305). -/
def execCbSet2C (s : State) : Host.Outcome State Fault Refusal :=
  finish (modify (s.gaps (.cb 0xD1)) (setBit 2) (.reg .c) s)

/-- SET 2,D (R305). -/
def execCbSet2D (s : State) : Host.Outcome State Fault Refusal :=
  finish (modify (s.gaps (.cb 0xD2)) (setBit 2) (.reg .d) s)

/-- SET 2,E (R305). -/
def execCbSet2E (s : State) : Host.Outcome State Fault Refusal :=
  finish (modify (s.gaps (.cb 0xD3)) (setBit 2) (.reg .e) s)

/-- SET 2,H (R305). -/
def execCbSet2H (s : State) : Host.Outcome State Fault Refusal :=
  finish (modify (s.gaps (.cb 0xD4)) (setBit 2) (.reg .h) s)

/-- SET 2,L (R305). -/
def execCbSet2L (s : State) : Host.Outcome State Fault Refusal :=
  finish (modify (s.gaps (.cb 0xD5)) (setBit 2) (.reg .l) s)

/-- SET 2,(HL) (R305). -/
def execCbSet2MemHl (s : State) : Host.Outcome State Fault Refusal :=
  finish (modify (s.gaps (.cb 0xD6)) (setBit 2) .memHl s)

/-- SET 2,A (R305). -/
def execCbSet2A (s : State) : Host.Outcome State Fault Refusal :=
  finish (modify (s.gaps (.cb 0xD7)) (setBit 2) (.reg .a) s)

/-- SET 3,B (R305). -/
def execCbSet3B (s : State) : Host.Outcome State Fault Refusal :=
  finish (modify (s.gaps (.cb 0xD8)) (setBit 3) (.reg .b) s)

/-- SET 3,C (R305). -/
def execCbSet3C (s : State) : Host.Outcome State Fault Refusal :=
  finish (modify (s.gaps (.cb 0xD9)) (setBit 3) (.reg .c) s)

/-- SET 3,D (R305). -/
def execCbSet3D (s : State) : Host.Outcome State Fault Refusal :=
  finish (modify (s.gaps (.cb 0xDA)) (setBit 3) (.reg .d) s)

/-- SET 3,E (R305). -/
def execCbSet3E (s : State) : Host.Outcome State Fault Refusal :=
  finish (modify (s.gaps (.cb 0xDB)) (setBit 3) (.reg .e) s)

/-- SET 3,H (R305). -/
def execCbSet3H (s : State) : Host.Outcome State Fault Refusal :=
  finish (modify (s.gaps (.cb 0xDC)) (setBit 3) (.reg .h) s)

/-- SET 3,L (R305). -/
def execCbSet3L (s : State) : Host.Outcome State Fault Refusal :=
  finish (modify (s.gaps (.cb 0xDD)) (setBit 3) (.reg .l) s)

/-- SET 3,(HL) (R305). -/
def execCbSet3MemHl (s : State) : Host.Outcome State Fault Refusal :=
  finish (modify (s.gaps (.cb 0xDE)) (setBit 3) .memHl s)

/-- SET 3,A (R305). -/
def execCbSet3A (s : State) : Host.Outcome State Fault Refusal :=
  finish (modify (s.gaps (.cb 0xDF)) (setBit 3) (.reg .a) s)

/-- SET 4,B (R305). -/
def execCbSet4B (s : State) : Host.Outcome State Fault Refusal :=
  finish (modify (s.gaps (.cb 0xE0)) (setBit 4) (.reg .b) s)

/-- SET 4,C (R305). -/
def execCbSet4C (s : State) : Host.Outcome State Fault Refusal :=
  finish (modify (s.gaps (.cb 0xE1)) (setBit 4) (.reg .c) s)

/-- SET 4,D (R305). -/
def execCbSet4D (s : State) : Host.Outcome State Fault Refusal :=
  finish (modify (s.gaps (.cb 0xE2)) (setBit 4) (.reg .d) s)

/-- SET 4,E (R305). -/
def execCbSet4E (s : State) : Host.Outcome State Fault Refusal :=
  finish (modify (s.gaps (.cb 0xE3)) (setBit 4) (.reg .e) s)

/-- SET 4,H (R305). -/
def execCbSet4H (s : State) : Host.Outcome State Fault Refusal :=
  finish (modify (s.gaps (.cb 0xE4)) (setBit 4) (.reg .h) s)

/-- SET 4,L (R305). -/
def execCbSet4L (s : State) : Host.Outcome State Fault Refusal :=
  finish (modify (s.gaps (.cb 0xE5)) (setBit 4) (.reg .l) s)

/-- SET 4,(HL) (R305). -/
def execCbSet4MemHl (s : State) : Host.Outcome State Fault Refusal :=
  finish (modify (s.gaps (.cb 0xE6)) (setBit 4) .memHl s)

/-- SET 4,A (R305). -/
def execCbSet4A (s : State) : Host.Outcome State Fault Refusal :=
  finish (modify (s.gaps (.cb 0xE7)) (setBit 4) (.reg .a) s)

/-- SET 5,B (R305). -/
def execCbSet5B (s : State) : Host.Outcome State Fault Refusal :=
  finish (modify (s.gaps (.cb 0xE8)) (setBit 5) (.reg .b) s)

/-- SET 5,C (R305). -/
def execCbSet5C (s : State) : Host.Outcome State Fault Refusal :=
  finish (modify (s.gaps (.cb 0xE9)) (setBit 5) (.reg .c) s)

/-- SET 5,D (R305). -/
def execCbSet5D (s : State) : Host.Outcome State Fault Refusal :=
  finish (modify (s.gaps (.cb 0xEA)) (setBit 5) (.reg .d) s)

/-- SET 5,E (R305). -/
def execCbSet5E (s : State) : Host.Outcome State Fault Refusal :=
  finish (modify (s.gaps (.cb 0xEB)) (setBit 5) (.reg .e) s)

/-- SET 5,H (R305). -/
def execCbSet5H (s : State) : Host.Outcome State Fault Refusal :=
  finish (modify (s.gaps (.cb 0xEC)) (setBit 5) (.reg .h) s)

/-- SET 5,L (R305). -/
def execCbSet5L (s : State) : Host.Outcome State Fault Refusal :=
  finish (modify (s.gaps (.cb 0xED)) (setBit 5) (.reg .l) s)

/-- SET 5,(HL) (R305). -/
def execCbSet5MemHl (s : State) : Host.Outcome State Fault Refusal :=
  finish (modify (s.gaps (.cb 0xEE)) (setBit 5) .memHl s)

/-- SET 5,A (R305). -/
def execCbSet5A (s : State) : Host.Outcome State Fault Refusal :=
  finish (modify (s.gaps (.cb 0xEF)) (setBit 5) (.reg .a) s)

/-- SET 6,B (R305). -/
def execCbSet6B (s : State) : Host.Outcome State Fault Refusal :=
  finish (modify (s.gaps (.cb 0xF0)) (setBit 6) (.reg .b) s)

/-- SET 6,C (R305). -/
def execCbSet6C (s : State) : Host.Outcome State Fault Refusal :=
  finish (modify (s.gaps (.cb 0xF1)) (setBit 6) (.reg .c) s)

/-- SET 6,D (R305). -/
def execCbSet6D (s : State) : Host.Outcome State Fault Refusal :=
  finish (modify (s.gaps (.cb 0xF2)) (setBit 6) (.reg .d) s)

/-- SET 6,E (R305). -/
def execCbSet6E (s : State) : Host.Outcome State Fault Refusal :=
  finish (modify (s.gaps (.cb 0xF3)) (setBit 6) (.reg .e) s)

/-- SET 6,H (R305). -/
def execCbSet6H (s : State) : Host.Outcome State Fault Refusal :=
  finish (modify (s.gaps (.cb 0xF4)) (setBit 6) (.reg .h) s)

/-- SET 6,L (R305). -/
def execCbSet6L (s : State) : Host.Outcome State Fault Refusal :=
  finish (modify (s.gaps (.cb 0xF5)) (setBit 6) (.reg .l) s)

/-- SET 6,(HL) (R305). -/
def execCbSet6MemHl (s : State) : Host.Outcome State Fault Refusal :=
  finish (modify (s.gaps (.cb 0xF6)) (setBit 6) .memHl s)

/-- SET 6,A (R305). -/
def execCbSet6A (s : State) : Host.Outcome State Fault Refusal :=
  finish (modify (s.gaps (.cb 0xF7)) (setBit 6) (.reg .a) s)

/-- SET 7,B (R305). -/
def execCbSet7B (s : State) : Host.Outcome State Fault Refusal :=
  finish (modify (s.gaps (.cb 0xF8)) (setBit 7) (.reg .b) s)

/-- SET 7,C (R305). -/
def execCbSet7C (s : State) : Host.Outcome State Fault Refusal :=
  finish (modify (s.gaps (.cb 0xF9)) (setBit 7) (.reg .c) s)

/-- SET 7,D (R305). -/
def execCbSet7D (s : State) : Host.Outcome State Fault Refusal :=
  finish (modify (s.gaps (.cb 0xFA)) (setBit 7) (.reg .d) s)

/-- SET 7,E (R305). -/
def execCbSet7E (s : State) : Host.Outcome State Fault Refusal :=
  finish (modify (s.gaps (.cb 0xFB)) (setBit 7) (.reg .e) s)

/-- SET 7,H (R305). -/
def execCbSet7H (s : State) : Host.Outcome State Fault Refusal :=
  finish (modify (s.gaps (.cb 0xFC)) (setBit 7) (.reg .h) s)

/-- SET 7,L (R305). -/
def execCbSet7L (s : State) : Host.Outcome State Fault Refusal :=
  finish (modify (s.gaps (.cb 0xFD)) (setBit 7) (.reg .l) s)

/-- SET 7,(HL) (R305). -/
def execCbSet7MemHl (s : State) : Host.Outcome State Fault Refusal :=
  finish (modify (s.gaps (.cb 0xFE)) (setBit 7) .memHl s)

/-- SET 7,A (R305). -/
def execCbSet7A (s : State) : Host.Outcome State Fault Refusal :=
  finish (modify (s.gaps (.cb 0xFF)) (setBit 7) (.reg .a) s)

end Sys2Proof.Machine
end

