-- ==== Sys2Proof/Machine/System.lean ====
section
/-! DEFINITION. Miscellaneous and system instructions (47_misc_system.md R340-R346): NOP, HALT, STOP, DI,
EI, the eleven illegal opcodes and the prefix byte. STOP and the illegal opcodes answer the state whose
`status` the rule gives, after which no step exists (log 9). -/

namespace Sys2Proof.Machine

/-- NOP (R340). -/
def execNop (s : State) : Host.Outcome State Fault Refusal :=
  finish (settle (s.gaps (.main 0x00)) s)

/-- STOP (R342). -/
def execStop (s : State) : Host.Outcome State Fault Refusal :=
  finish (refuse (.refusedStop (s.cpu.pc - 1)) s)

/-- HALT (R341). -/
def execHalt (s : State) : Host.Outcome State Fault Refusal :=
  finish (settle (s.gaps (.main 0x76)) { s with cpu := { s.cpu with halted := true } })

/-- PREFIX CB (R346). -/
def execPrefixCb (s : State) : Host.Outcome State Fault Refusal :=
  finish ((pause (s.cycleLine (.main 0xCB)).fetch 0 s).andThen fun _ s =>
    (imm8 s).andThen fun op2 s => executeCb op2 s)

/-- ILLEGAL_D3 (R345). -/
def execIllegalD3 (s : State) : Host.Outcome State Fault Refusal :=
  finish (raise (.illegalOpcode 0xD3 (s.cpu.pc - 1)) s)

/-- ILLEGAL_DB (R345). -/
def execIllegalDB (s : State) : Host.Outcome State Fault Refusal :=
  finish (raise (.illegalOpcode 0xDB (s.cpu.pc - 1)) s)

/-- ILLEGAL_DD (R345). -/
def execIllegalDD (s : State) : Host.Outcome State Fault Refusal :=
  finish (raise (.illegalOpcode 0xDD (s.cpu.pc - 1)) s)

/-- ILLEGAL_E3 (R345). -/
def execIllegalE3 (s : State) : Host.Outcome State Fault Refusal :=
  finish (raise (.illegalOpcode 0xE3 (s.cpu.pc - 1)) s)

/-- ILLEGAL_E4 (R345). -/
def execIllegalE4 (s : State) : Host.Outcome State Fault Refusal :=
  finish (raise (.illegalOpcode 0xE4 (s.cpu.pc - 1)) s)

/-- ILLEGAL_EB (R345). -/
def execIllegalEB (s : State) : Host.Outcome State Fault Refusal :=
  finish (raise (.illegalOpcode 0xEB (s.cpu.pc - 1)) s)

/-- ILLEGAL_EC (R345). -/
def execIllegalEC (s : State) : Host.Outcome State Fault Refusal :=
  finish (raise (.illegalOpcode 0xEC (s.cpu.pc - 1)) s)

/-- ILLEGAL_ED (R345). -/
def execIllegalED (s : State) : Host.Outcome State Fault Refusal :=
  finish (raise (.illegalOpcode 0xED (s.cpu.pc - 1)) s)

/-- DI (R343). -/
def execDi (s : State) : Host.Outcome State Fault Refusal :=
  finish (settle (s.gaps (.main 0xF3))
    { s with cpu := { s.cpu with ime := false, imePending := false } })

/-- ILLEGAL_F4 (R345). -/
def execIllegalF4 (s : State) : Host.Outcome State Fault Refusal :=
  finish (raise (.illegalOpcode 0xF4 (s.cpu.pc - 1)) s)

/-- EI (R344). -/
def execEi (s : State) : Host.Outcome State Fault Refusal :=
  finish (settle (s.gaps (.main 0xFB)) { s with cpu := { s.cpu with imePending := true } })

/-- ILLEGAL_FC (R345). -/
def execIllegalFC (s : State) : Host.Outcome State Fault Refusal :=
  finish (raise (.illegalOpcode 0xFC (s.cpu.pc - 1)) s)

/-- ILLEGAL_FD (R345). -/
def execIllegalFD (s : State) : Host.Outcome State Fault Refusal :=
  finish (raise (.illegalOpcode 0xFD (s.cpu.pc - 1)) s)

end Sys2Proof.Machine
end

