-- ==== Sys2Proof/Machine/Engine.lean ====
section
/-! DEFINITION. The parts of the step (40_execution_engine.md R180-R187, R191, R192): fetching an
instruction, the halted step, the end of a step, the host's actions between steps, and placing an
instruction's bytes in memory. -/

namespace Sys2Proof.Machine

/-- `n` immediate bytes, in order, one machine cycle each (R183), each after the internal cycles `g` puts
before it (R189). -/
def fetchBytes : List Nat → Nat → State → Res (List Byte)
  | _, 0, s => .ok [] s
  | g, n + 1, s =>
    (pause g 0 s).andThen fun _ s => (imm8 s).andThen fun v s =>
      (fetchBytes g.tail n s).andThen fun rest s => .ok (v :: rest) s

/-- Fetch one instruction (R181-R183): the opcode byte, then the bytes after it that are fetched before
the instruction acts (the byte after 0xCB, an immediate), PC past them. An opcode without a handler is
the fatal configuration error of R192; every opcode has one. -/
def fetch (s : State) : Res Instr :=
  (imm8 s).andThen fun op s =>
    (fetchBytes (s.cycleLine (.main op)).fetch (fetchedAfterOpcode op) s).andThen fun rest s =>
      match decode (op :: rest) with
      | .ok (i, _) => .ok i s
      | .error _ => raise (.fatalConfig (.missingHandler op)) s

/-- `halted_step()` (R186). -/
def haltedStep (s : State) : Res Unit :=
  (idle s).andThen fun _ s =>
    if s.irq.req = 0 then .ok () s else .ok () { s with cpu := { s.cpu with halted := false } }

/-- `ime_pending <- 0` (R187). -/
def clearImePending (s : State) : State := { s with cpu := { s.cpu with imePending := false } }

/-- `end_of_step()` (R187). -/
def endOfStep (s : State) : Res Unit :=
  if s.cpu.ime then (dispatch s).andThen fun _ s => .ok () (clearImePending s)
  else if s.cpu.imePending then .ok () { s with cpu := { s.cpu with ime := true, imePending := false } }
  else .ok () s

/-- The step after the instruction's effect: `end_of_step()`, unless the machine stopped (R180). -/
def afterExec (o : Host.Outcome State Fault Refusal) : Host.Outcome State Fault Refusal :=
  match o with
  | .next s =>
    match s.status with
    | .running => finish (endOfStep s)
    | _ => .next s
  | .fault f => .fault f
  | .refused r => .refused r

/-- The step of a halted machine (R180). -/
def haltedMachineStep (s : State) : Host.Outcome State Fault Refusal :=
  finish ((haltedStep s).andThen fun _ s => endOfStep s)

/-- Set IF bit 3, a host action (R191, R414). -/
def hostRequestSerial (s : State) : State := request 3 s

/-- Set IF bit 4, a host action (R191, R414). -/
def hostRequestJoypad (s : State) : State := request 4 s

/-- Append an event to a device's history. -/
def Device.append (d : Device) (e : DeviceEvent) : Device := { d with history := d.history ++ [e] }

/-- Change the state of an external device, a host action (R191; log 5). -/
def hostChangeDevice (id : DeviceId) (change : Nat) (s : State) : State :=
  match id with
  | .cart => { s with dev := { s.dev with cart := Device.append s.dev.cart (.host change) } }
  | .joypad => { s with dev := { s.dev with joypad := Device.append s.dev.joypad (.host change) } }
  | .serial => { s with dev := { s.dev with serial := Device.append s.dev.serial (.host change) } }
  | .sound => { s with dev := { s.dev with sound := Device.append s.dev.sound (.host change) } }

/-- Make a byte the known content of a device at an address. -/
def Device.place (d : Device) (a : Word) (v : Byte) : Device :=
  { d with image := insertCell d.image a.toNat v }

/-- Place a byte where a fetch at an address reads it (log 16). The echo range and the I/O registers
hold no program: a byte there is left as it is. -/
def placeByte (s : State) (a : Word) (v : Byte) : State :=
  match s.locate a with
  | .cart => { s with dev := { s.dev with cart := Device.place s.dev.cart a v } }
  | .vram i => { s with mem := { s.mem with vram := Cells.set s.mem.vram i v } }
  | .wram i => { s with mem := { s.mem with wram := Cells.set s.mem.wram i v } }
  | .oam i => { s with mem := { s.mem with oam := Cells.set s.mem.oam i v } }
  | .hram i => { s with mem := { s.mem with hram := Cells.set s.mem.hram i v } }
  | .ie => { s with irq := { s.irq with ie := v } }
  | .zero => s
  | .io _ => s

/-- Place bytes from an address on (log 16). -/
def placeBytes (s : State) (a : Word) : List Byte → State
  | [] => s
  | v :: rest => placeBytes (placeByte s a v) (a + 1) rest

/-- Running and not halted, so that the next step fetches (R38, R180). -/
def State.awake (s : State) : State :=
  { s with status := .running, cpu := { s.cpu with halted := false } }

end Sys2Proof.Machine
end

