-- ==== Sys2Proof/Machine/Step.lean ====
section
/-! DEFINITION. The step (40_execution_engine.md R180). -/

namespace Sys2Proof.Machine

/-- `step()` (R180). In a status other than running no step exists (R38): it answers why the machine
stopped. -/
def step (s : State) : Host.Outcome State Fault Refusal :=
  match s.status with
  | .faulted f => .fault f
  | .refused r => .refused r
  | .running =>
    if s.cpu.halted then haltedMachineStep s
    else
      match fetch s with
      | .ok i s => afterExec (exec i s)
      | .stop s => .next s

/-- The state with an instruction, numbered as the opcode table numbers it, stored where the next step
fetches (log 16). -/
def State.withFetchWord (s : State) (nbits w : Nat) : State :=
  placeBytes s.awake s.cpu.pc (tableBytes nbits w)

end Sys2Proof.Machine
end

