-- ==== Sys2Proof/Safety.lean ====
section
/-! DEFINITION. What claims are stated in: a live machine (nothing but the program itself can stop it), the machine's
invariant, what passing machine cycles may change, and what a store changes. -/

namespace Sys2Proof.Machine

/-- No access can be refused, whatever its address: R87 refuses only in CGB mode with `CGB_VIDEO_IO` =
refuse. -/
def NoneRefused (p : Params) : Prop := p.mode = .dmg ∨ p.cgbVideoIo = .benign

/-- What HDMA has still to read, and a block beyond it (R475), lies below the I/O block. -/
def Hdma.BelowIo (h : Hdma) : Prop := h.src.toNat + h.remaining + 16 ≤ 0xFF00

/-- No unit is about to make an access that R87 refuses: none is refused, or OAM DMA does not copy the page
of the I/O registers and HDMA copies from below them. -/
def State.NeverRefuses (s : State) : Prop :=
  NoneRefused s.params ∨
    (s.dma.active = true → s.dma.page ≠ 0xFF) ∧ (s.hdma.active = true → s.hdma.BelowIo)

/-- A read of the address is not refused (R87). -/
def State.Readable (s : State) (a : Word) : Prop := s.locate a ≠ .io .cgbVideo

/-- A write of the byte to the address is not refused, and it sets no unit to make an access that is: where
colour-mode video registers refuse, it starts no HDMA, and no OAM DMA of the I/O registers' page. -/
def State.Storable (s : State) (a : Word) (v : Byte) : Prop :=
  s.Readable a ∧ (NoneRefused s.params ∨
    (s.locate a = .io .dma → v ≠ 0xFF) ∧ s.locate a ≠ .io .hdma5)

/-- A word can be pushed: both its bytes can be stored, below SP (R234). -/
def State.Pushable (s : State) (w : Word) : Prop :=
  s.Storable (s.cpu.sp - 1) (BitVec.ofNat 8 (w.toNat / 256)) ∧
    s.Storable (s.cpu.sp - 2) (BitVec.ofNat 8 w.toNat)

/-- A word can be popped: both its bytes can be read, from SP on (R235). -/
def State.Poppable (s : State) : Prop := s.Readable s.cpu.sp ∧ s.Readable (s.cpu.sp + 1)

/-- No unit is about to use an offset out of its range, so that no fatal configuration error (R411) can
be raised: the OAM DMA cursor, the HDMA destination, the line and the column being drawn. -/
structure Coherent (s : State) : Prop where
  dmaCursor : s.dma.active = true → s.dma.index < 160
  hdmaDst : 0x8000 ≤ s.hdma.dst.toNat ∧ s.hdma.dst.toNat ≤ 0x9FFF
  line : s.lcd.mode ≠ .vblank → s.lcd.ly.toNat < 144
  column : s.lcd.mode = .transfer → s.pipe.pushedX < 160

/-- The machine runs, and no passing of time stops it: only STOP, an illegal opcode or an access of the
program's own that is refused can. -/
structure Live (s : State) : Prop where
  running : s.status = .running
  neverRefuses : s.NeverRefuses
  coherent : Coherent s

/-- `n` machine cycles can pass: there are none, or the machine is live. -/
def State.CanPass (s : State) (n : Nat) : Prop := n ≠ 0 → Live s

/-- The fetcher's states in order (R532). -/
def FetchState.ordinal : FetchState → Nat
  | .tile => 0
  | .data0 => 1
  | .data1 => 2
  | .idle => 3
  | .push => 4

/-- Pixels popped after `n` ticks of a transfer: the FIFO starts to drain at its second push, 20 ticks in,
and drains 8 pixels in every 10 ticks (R530, R532, R543). -/
def poppedAfter (n : Nat) : Nat := if n < 20 then 0 else 8 * (n / 10 - 2) + min 8 (n % 10 + 1)

/-- How far the pixel pipeline is `n` ticks into a transfer (64_pixel_pipeline.md R530-R546). -/
structure PipelineAt (n : Nat) (p : Pipeline) : Prop where
  state : p.fetchState.ordinal = n % 10 / 2
  fetchX : p.fetchX = 8 * ((n + 8) / 10)
  fifoX : p.fifoX = 8 * (n / 10)
  lineX : p.lineX = poppedAfter n
  fifo : p.fifo.length = 8 * (n / 10) - poppedAfter n
  pushedX : p.pushedX = poppedAfter n - p.scxFine.toNat

/-- Where the PPU stands in its line (R498-R506): which ticks belong to which mode. -/
def LineAt (s : State) : Prop :=
  match s.lcd.mode with
  | .oamScan => s.ppu.lineTicks < 80
  | .transfer => 80 ≤ s.ppu.lineTicks ∧ PipelineAt (s.ppu.lineTicks - 80) s.pipe
  | .hblank => s.ppu.lineTicks < 456
  | .vblank => s.ppu.lineTicks < 456

/-- The number of bytes of work RAM (R8, R83). -/
def wramSize : Mode → Nat
  | .dmg => 0x2000
  | .cgb => 0x8000

/-- Every memory is in its one canonical form and inside its size (R45, R8; log 1). -/
structure MemorySound (s : State) : Prop where
  vram : Memory.wf 0x2000 s.mem.vram = true
  oam : Memory.wf 160 s.mem.oam = true
  wram : Memory.wf (wramSize s.params.mode) s.mem.wram = true
  hram : Memory.wf 127 s.mem.hram = true
  framebuffer : Cells.wf 23040 s.mem.framebuffer = true

/-- What holds of the machine at every moment at which it runs, inside a step as between steps. -/
structure Sound (s : State) : Prop where
  memory : MemorySound s
  flagsLow : s.cpu.f &&& 0x0F = 0
  coherent : Coherent s
  vblankLine : s.lcd.mode = .vblank → 144 ≤ s.lcd.ly.toNat ∧ s.lcd.ly.toNat ≤ 153
  lineAt : LineAt s
  lineSprites : s.ppu.lineSprites.length ≤ 10
  fetched : s.pipe.fetched.length ≤ 3
  staging : s.pipe.spriteLo.length = 3 ∧ s.pipe.spriteHi.length = 3
  fifo : s.pipe.fifo.length ≤ 16
  dmaDelay : s.dma.delay ≤ 2
  dmaIndex : s.dma.index ≤ 160
  hdmaLength : s.hdma.remaining ≤ 2048
  hdmaBlocks : s.hdma.remaining % 16 = 0
  hdmaLeft : s.hdma.active = true → s.hdma.remaining ≠ 0
  dmgOnly : s.params.mode = .dmg → s.hdma.active = false ∧ s.mem.svbk = 0 ∧ s.draws = 0

/-- The machine's invariant at step boundaries: a running machine is sound and has no enable of
interrupts pending (R577). A stopped machine takes no step (R38), so nothing is asked of it. -/
def Inv (s : State) : Prop := s.status = .running → Sound s ∧ s.cpu.imePending = false

/-- The part of the state that no passing of time changes: the state with everything the timer, OAM DMA,
HDMA and the PPU advance put to fixed values. -/
def State.programSide (s : State) : State :=
  { s with
    status := .running
    irq := { s.irq with req := 0 }
    timer := { s.timer with div := 0, tima := 0 }
    dma := { s.dma with active := false, delay := 0, index := 0 }
    hdma := { s.hdma with active := false, src := 0, dst := 0, remaining := 0 }
    lcd := { s.lcd with coincidence := false, mode := .hblank, ly := 0 }
    ppu := { lineTicks := 0, lineSprites := [], windowLatch := false, windowLine := 0,
             windowDrawn := false }
    pipe := { fetchState := .tile, fetchX := 0, lineX := 0, pushedX := 0, fifoX := 0, scxFine := 0,
              fetchWindow := false, tileNo := 0, tileRow := 0, tileLo := 0, tileHi := 0,
              fetched := [], spriteLo := [], spriteHi := [], fifo := [] }
    mem := { s.mem with vram := [], oam := [], framebuffer := [] }
    events := []
    draws := 0
    cycles := 0 }

/-- HDMA copies nothing while time passes: no HBlank transfer is active, or the console has none. -/
def State.HdmaRests (s : State) : Prop := s.hdma.active = false ∨ s.params.mode = .dmg

/-- No device changes what a location holds while time passes. -/
def State.StillAt (s : State) : Location → Prop
  | .io _ => False
  | .oam _ => s.dma.active = false
  | .vram _ => s.HdmaRests
  | _ => True

/-- No device changes the byte at an address while time passes: it is no I/O register, not in OAM during
an OAM DMA, not in video RAM during an HDMA. -/
def State.StillByte (s : State) (a : Word) : Prop := s.StillAt (s.locate a)

/-- The bytes from an address on read as listed, and no device moves them. -/
def State.HoldsBytes (s : State) : Word → List Byte → Prop
  | _, [] => True
  | a, v :: rest => s.peek a = v ∧ s.StillByte a ∧ s.HoldsBytes (a + 1) rest

/-- What `n` machine cycles in which the CPU accesses nothing may change (R184): the count and the divider
advance, the devices move, requests are added, events are recorded; every register, every parameter and
every byte no device moves are as before. No cycle changes nothing. -/
structure Elapsed (n : Nat) (s t : State) : Prop where
  cycles : t.cycles = s.cycles + n
  divider : t.timer.div = s.timer.div + BitVec.ofNat 16 (4 * n)
  cpu : t.cpu = s.cpu
  program : t.programSide = s.programSide
  status : t.status = s.status
  requests : s.irq.req &&& t.irq.req = s.irq.req
  events : s.events <+: t.events
  oam : s.dma.active = false → t.mem.oam = s.mem.oam ∧ t.dma = s.dma
  vram : s.HdmaRests → t.mem.vram = s.mem.vram ∧ t.hdma = s.hdma
  bytes : ∀ a, s.StillByte a → t.peek a = s.peek a
  none : n = 0 → t = s

/-- A byte that a store to `a` and the machine cycles after it leave alone: not the stored one, no I/O
register, no byte a device moves or that the store sets a device to move, none the store switches to
another work-RAM bank, and none of the cartridge when the store goes to the cartridge. -/
def State.Untouched (s : State) (a b : Word) : Prop :=
  b ≠ a ∧ s.StillByte b ∧
  match s.locate a with
  | .io .dma => ∀ i, s.locate b ≠ .oam i
  | .io .hdma5 => ∀ i, s.locate b ≠ .vram i
  | .io .svbk => b.toNat < 0xD000 ∨ 0xE000 ≤ b.toNat
  | .cart => s.locate b ≠ .cart
  | _ => True

/-- An address whose byte is still what was stored there after the store's machine cycles: RAM, high RAM,
IE, and OAM and video RAM while no device copies into them. -/
def State.Keeps (s : State) (a : Word) : Prop :=
  s.StillByte a ∧ s.locate a ≠ .cart ∧ s.locate a ≠ .zero

/-- A byte store (R13) and the `n` machine cycles up to the next access or the end of the instruction, its own
first: the bus's write of `v` at `a` takes `s` to a state `u`, and `n` machine cycles take `u` to `t`. Every
byte the store leaves alone reads as before; the stored byte reads as stored where the address keeps it. -/
structure Stored (n : Nat) (a : Word) (v : Byte) (s t : State) : Prop where
  store : ∃ u, busWrite a v s = .ok () u ∧ Elapsed n u t
  cpu : t.cpu = s.cpu
  params : t.params = s.params
  cycles : t.cycles = s.cycles + n
  bytes : ∀ b, s.Untouched a b → t.peek b = s.peek b
  stored : s.Keeps a → t.peek a = v

end Sys2Proof.Machine
end

