-- ==== Sys2Proof/Claims.lean ====
section
/-! DEFINITION. What the statements about instructions are made of: for each family of the opcode table
its rows (opcode byte, instruction, operands) as 30_encoding.md and the family's rules list them, and the
results those rules give, written with arithmetic on numbers. -/

namespace Sys2Proof.Claims

open Sys2Proof.Machine

/-- The internal cycles that `CYCLE_TABLE` puts in place `k` of an opcode's effect (R189): 0 after the last
fetched byte, `k` after the `k`-th access; of a conditional opcode, where the condition holds. -/
def gap (s : State) (o : Opcode) (k : Nat) : Nat := (s.cycleLine o).taken.getD k 0

/-- The internal cycles of a conditional opcode whose condition fails (R188, R189). -/
def gapNotTaken (s : State) (o : Opcode) : Nat := (s.cycleLine o).notTaken

/-- The machine cycles of fetching these bytes: one a byte, and the internal cycles that the first byte's line of
`CYCLE_TABLE` puts between them (R181-R183, R189). -/
def fetchCycles (s : State) : List Byte → Nat
  | [] => 0
  | op :: rest => rest.length + 1 + ((s.cycleLine (.main op)).fetch.take rest.length).sum

/-- The opcode that selects the line of `CYCLE_TABLE`: the first byte, or the byte after 0xCB. -/
def keyOf : List Byte → Opcode
  | [] => .main 0x00
  | op :: rest => if op = 0xCB then .cb (rest.headD 0x00) else .main op

/-- `bytes` is what the machine fetches of the instruction `i` before `i` acts: the decoder reads them as
`i` whatever follows, and a live machine that finds them at PC fetches `i` in the fetch's machine cycles
and leaves PC past them (R157, R181-R183). With the default `CYCLE_TABLE` the fetch takes one machine cycle a
byte, and the internal cycles are `internal`, by place in the effect, and `failed` where a condition fails
(R189). -/
structure Reads (bytes : List Byte) (i : Instr) (internal : List Nat := []) (failed : Nat := 0) : Prop where
  decodes : ∀ rest, decode (bytes ++ rest) = .ok (i, rest)
  fetched : ∀ s, Live s → s.HoldsBytes s.cpu.pc bytes →
    ∃ t, fetch s = .ok i t ∧ Live t ∧
      Elapsed (fetchCycles s bytes) (s.setPc (s.cpu.pc + BitVec.ofNat 16 bytes.length)) t
  paced : ∀ s, s.params.cycleTable = [] → fetchCycles s bytes = bytes.length ∧
    (∀ k, gap s (keyOf bytes) k = internal.getD k 0) ∧ gapNotTaken s (keyOf bytes) = failed

/-- On `s`, the fetched instruction `i` completes: exec answers a next state that is `s'` after `n` machine
cycles of the devices (none: exactly `s'`), live if `s` was. -/
def Completes (i : Instr) (s : State) (n : Nat) (s' : State) : Prop :=
  ∃ t, exec i s = .next t ∧ (Live s → Live t) ∧ Elapsed n s' t

/-- On `s`, the fetched instruction `i` completes by way of `m`, the state after `g` machine cycles of the
devices (none: `m` is `s`), in which it makes its access if it makes one: exec answers a next state that is
`f m` after `n` more machine cycles. -/
def CompletesVia (i : Instr) (s : State) (g n : Nat) (f : State → State) : Prop :=
  ∃ m t, Elapsed g s m ∧ (Live s → Live m) ∧ exec i s = .next t ∧ (Live s → Live t) ∧ Elapsed n (f m) t

/-- The machine cycles of reading an operand: none but for the byte at HL, which takes one and the internal
cycles after it. -/
def accessCycles (s : State) (key : Opcode) : Operand8 → Nat
  | .reg _ => 0
  | .memHl => 1 + gap s key 1
  | .imm _ => 0

/-- The value of an operand (R142, R250). -/
def operandValue (s : State) : Operand8 → Byte
  | .reg r => s.reg8 r
  | .memHl => s.peek (s.cpu.h ++ s.cpu.l)
  | .imm v => v

/-- The address HL (R31, R183). -/
def hlAddress (s : State) : Word := s.cpu.h ++ s.cpu.l

/-- An operand can be read: a register always, the byte at HL on a live machine where the read is not
refused (R87); and the internal cycles before it can pass. -/
def OperandReady (s : State) (key : Opcode) (o : Operand8) : Prop :=
  s.CanPass (gap s key 0) ∧ (o = .memHl → Live s ∧ s.Readable (hlAddress s))

/-- A result can be written back: to a register always, to the byte at HL on a live machine where neither the
read nor the store is refused (R87); and the internal cycles before them can pass. -/
def ResultReady (s : State) (key : Opcode) (o : Operand8) (r : Byte) : Prop :=
  s.CanPass (gap s key 0) ∧ (o = .memHl → Live s ∧ s.Storable (hlAddress s) r)

/-- The address BC (R31, R183). -/
def bcAddress (s : State) : Word := s.cpu.b ++ s.cpu.c

/-- The address DE (R31, R183). -/
def deAddress (s : State) : Word := s.cpu.d ++ s.cpu.e

/-- The address 0xFF00 + C (R148, R183). -/
def cAddress (s : State) : Word := 0xFF#8 ++ s.cpu.c

/-- F with the four flags Z, N, H, C in bits 7 to 4 and a low nibble of 0 (R32). -/
def flagByte (z n h c : Bool) : Byte :=
  BitVec.ofNat 8 (128 * z.toNat + 64 * n.toNat + 32 * h.toNat + 16 * c.toNat)

/-- Bit 7 of F (R32). -/
def zFlag (s : State) : Bool := s.cpu.f.getLsbD 7

/-- Bit 6 of F (R32). -/
def nFlag (s : State) : Bool := s.cpu.f.getLsbD 6

/-- Bit 5 of F (R32). -/
def hFlag (s : State) : Bool := s.cpu.f.getLsbD 5

/-- Bit 4 of F (R32). -/
def cFlag (s : State) : Bool := s.cpu.f.getLsbD 4

/-- A condition on F (R145, R320). -/
def condHolds (s : State) : Cond → Prop
  | .nz => zFlag s = false
  | .z => zFlag s = true
  | .nc => cFlag s = false
  | .c => cFlag s = true

/-- The state with new A and F. -/
def withAF (s : State) (a f : Byte) : State := { s with cpu := { s.cpu with a := a, f := f } }

/-- The state with new F. -/
def withF (s : State) (f : Byte) : State := { s with cpu := { s.cpu with f := f } }

/-- The result byte and F of an accumulator operation on A, an operand and the carry: the formulas of
R251-R258. -/
def aluSpec (op : AluOp) (a v : Byte) (c : Bool) : Byte × Byte :=
  match op with
  | .add =>
    let r := a.toNat + v.toNat
    (BitVec.ofNat 8 r, flagByte (r % 256 == 0) false (a.toNat % 16 + v.toNat % 16 > 0x0F) (r > 0xFF))
  | .adc =>
    let r := a.toNat + v.toNat + c.toNat
    (BitVec.ofNat 8 r,
      flagByte (r % 256 == 0) false (a.toNat % 16 + v.toNat % 16 + c.toNat > 0x0F) (r > 0xFF))
  | .sub =>
    (a - v, flagByte (a == v) true (a.toNat % 16 < v.toNat % 16) (a.toNat < v.toNat))
  | .sbc =>
    let r := a.toNat + 512 - v.toNat - c.toNat
    (BitVec.ofNat 8 r,
      flagByte (r % 256 == 0) true (a.toNat % 16 < v.toNat % 16 + c.toNat) (a.toNat < v.toNat + c.toNat))
  | .and => (a &&& v, flagByte (a &&& v == 0) false true false)
  | .xor => (a ^^^ v, flagByte (a == v) false false false)
  | .or => (a ||| v, flagByte (a ||| v == 0) false false false)
  | .cp => (a, flagByte (a == v) true (a.toNat % 16 < v.toNat % 16) (a.toNat < v.toNat))

/-- The result byte of a rotate or shift and the bit it shifts out, as numbers (R295-R302). -/
def rotSpec (op : RotOp) (v : Byte) (c : Bool) : Byte × Bool :=
  let n := v.toNat
  match op with
  | .rlc => (BitVec.ofNat 8 (2 * n + n / 128), n / 128 == 1)
  | .rrc => (BitVec.ofNat 8 (n / 2 + 128 * (n % 2)), n % 2 == 1)
  | .rl => (BitVec.ofNat 8 (2 * n + c.toNat), n / 128 == 1)
  | .rr => (BitVec.ofNat 8 (n / 2 + 128 * c.toNat), n % 2 == 1)
  | .sla => (BitVec.ofNat 8 (2 * n), n / 128 == 1)
  | .sra => (BitVec.ofNat 8 (n / 2 + 128 * (n / 128)), n % 2 == 1)
  | .swap => (BitVec.ofNat 8 (16 * (n % 16) + n / 16), false)
  | .srl => (BitVec.ofNat 8 (n / 2), n % 2 == 1)

/-- Bit `b` of a byte as a number, 0 or 1. -/
def bitOf (v : Byte) (b : Nat) : Nat := v.toNat / 2 ^ b % 2

/-- RES (R304): the bit's weight is taken away if the bit is set. -/
def resSpec (b : Nat) (v : Byte) : Byte := BitVec.ofNat 8 (v.toNat - bitOf v b * 2 ^ b)

/-- SET (R305): the bit's weight is added if the bit is clear. -/
def setSpec (b : Nat) (v : Byte) : Byte := BitVec.ofNat 8 (v.toNat + (1 - bitOf v b) * 2 ^ b)

/-- The signed value of an immediate, added to a word modulo 65536 (R148). -/
def addSigned (w : Word) (e : Byte) : Word := BitVec.ofInt 16 (w.toNat + e.toInt)

/-- F of LD HL,SP+e8 and ADD SP,e8 (R233, R283). -/
def spFlags (sp : Word) (e : Byte) : Byte :=
  flagByte false false (sp.toNat % 16 + e.toNat % 16 > 0x0F) (sp.toNat % 256 + e.toNat > 0xFF)

/-- A byte read at an address (R13), and the machine cycles up to the next access, its own and `g` internal
ones: the read gives the byte as it is in `s`. -/
def ReadAt (g : Nat) (a : Word) (s t : State) : Prop :=
  ∃ u, rd a s = .ok (s.peek a) u ∧ Elapsed 1 s u ∧ Elapsed g u t

/-- A byte stored by the first access of an opcode's effect (R13, R189): the internal cycles before it, then the
store, its machine cycle and the internal cycles after it, on a live machine throughout. -/
def StoredVia (key : Opcode) (a : Word) (v : Byte) (s t : State) : Prop :=
  ∃ m, Elapsed (gap s key 0) s m ∧ Live m ∧ Stored (1 + gap s key 1) a v m t ∧ Live t

/-- On `s`, the fetched instruction `i` ends with the refusal of its first access (R87, R412): the internal cycles
before it pass, and the refusal is all that changes. -/
def EndsRefused (i : Instr) (s : State) (key : Opcode) (a : Word) : Prop :=
  s.CanPass (gap s key 0) → ∃ m, Elapsed (gap s key 0) s m ∧
    exec i s = .next { m with status := .refused (.refusedCgbVideo a) }

/-- A result written to an operand, from the state `s` in which the operand is read (R294): to a register at
once, to the byte at HL by a store, after the read; `g1` and `g2` are the internal cycles after the two. -/
def ResultWritten (g1 g2 : Nat) (o : Operand8) (r : Byte) (s u : State) : Prop :=
  match o with
  | .reg q => u = s.setReg8 q r
  | .memHl => ∃ m, ReadAt g1 (hlAddress s) s m ∧ Stored (1 + g2) (hlAddress s) r m u
  | .imm _ => False

/-- A word pushed (R234): the high byte stored below SP, then the low byte below it, with `g1` and `g2` internal
cycles after the two stores. -/
def Pushed (g1 g2 : Nat) (w : Word) (s t : State) : Prop :=
  ∃ m, Stored (1 + g1) (s.cpu.sp - 1) (BitVec.ofNat 8 (w.toNat / 256)) (s.setSp (s.cpu.sp - 1)) m ∧
    Stored (1 + g2) (s.cpu.sp - 2) (BitVec.ofNat 8 w.toNat) (m.setSp (s.cpu.sp - 2)) t

/-- A word popped (R235): the low byte read at SP, then, after the machine cycle of that read and `g1` internal
ones, which ended in `m`, the high byte at SP + 1, and `g2` internal cycles after it; SP ends 2 higher. -/
def Popped (g1 g2 : Nat) (w : Word) (s t : State) : Prop :=
  Elapsed (2 + g1 + g2) (s.setSp (s.cpu.sp + 2)) t ∧
    ∃ u m, popByte s = .ok (s.peek s.cpu.sp) u ∧ Elapsed 1 (s.setSp (s.cpu.sp + 1)) u ∧ Elapsed g1 u m ∧
      w = m.peek (s.cpu.sp + 1) ++ s.peek s.cpu.sp

/-- The PPU's ticks act: the LCD is on, or turning it off does not stop the PPU (R512). -/
def PpuRuns (s : State) : Prop := s.params.lcdOffStopsPpu = false ∨ s.lcd.lcdc.getLsbD 7 = true

/-- The line tick at which mode 0 is entered on a line whose transfer latched `fine` (R546). -/
def transferEnd (fine : Nat) : Nat := if fine = 0 then 297 else 299 + fine

/-- The colour index, 0 to 3, that a fetched sprite with its two bitplane bytes has at the line coordinate `p`:
0 where it is transparent or not over `p` (R535, R540). -/
def spriteColour (s : State) (p : Nat) (x : Sprite × Byte × Byte) : Nat :=
  let off : Int := p - (x.1.x.toNat - 8 + s.pipe.scxFine.toNat)
  let k := if x.1.attr.getLsbD 5 then off.toNat else 7 - off.toNat
  if 0 ≤ off ∧ off ≤ 7 then (x.2.1.getLsbD k).toNat + 2 * (x.2.2.getLsbD k).toNat else 0

/-- How often a frame was completed. -/
def framesDone (s : State) : Nat := s.events.count .frameComplete

/-- LD r,r' (R201): opcode, instruction, destination, source. -/
def loadRegRows : List (Byte × Instr × Reg8 × Reg8) :=
  ([(0x40, .ldBB, .b, .b), (0x41, .ldBC, .b, .c), (0x42, .ldBD, .b, .d), (0x43, .ldBE, .b, .e),
     (0x44, .ldBH, .b, .h), (0x45, .ldBL, .b, .l), (0x47, .ldBA, .b, .a), (0x48, .ldCB, .c, .b),
     (0x49, .ldCC, .c, .c), (0x4A, .ldCD, .c, .d), (0x4B, .ldCE, .c, .e), (0x4C, .ldCH, .c, .h),
     (0x4D, .ldCL, .c, .l), (0x4F, .ldCA, .c, .a), (0x50, .ldDB, .d, .b), (0x51, .ldDC, .d, .c),
     (0x52, .ldDD, .d, .d), (0x53, .ldDE, .d, .e), (0x54, .ldDH, .d, .h), (0x55, .ldDL, .d, .l),
     (0x57, .ldDA, .d, .a), (0x58, .ldEB, .e, .b), (0x59, .ldEC, .e, .c), (0x5A, .ldED, .e, .d)] :
    List (Byte × Instr × Reg8 × Reg8)) ++
  ([(0x5B, .ldEE, .e, .e), (0x5C, .ldEH, .e, .h), (0x5D, .ldEL, .e, .l), (0x5F, .ldEA, .e, .a),
     (0x60, .ldHB, .h, .b), (0x61, .ldHC, .h, .c), (0x62, .ldHD, .h, .d), (0x63, .ldHE, .h, .e),
     (0x64, .ldHH, .h, .h), (0x65, .ldHL, .h, .l), (0x67, .ldHA, .h, .a), (0x68, .ldLB, .l, .b),
     (0x69, .ldLC, .l, .c), (0x6A, .ldLD, .l, .d), (0x6B, .ldLE, .l, .e), (0x6C, .ldLH, .l, .h),
     (0x6D, .ldLL, .l, .l), (0x6F, .ldLA, .l, .a), (0x78, .ldAB, .a, .b), (0x79, .ldAC, .a, .c),
     (0x7A, .ldAD, .a, .d), (0x7B, .ldAE, .a, .e), (0x7C, .ldAH, .a, .h), (0x7D, .ldAL, .a, .l)] :
    List (Byte × Instr × Reg8 × Reg8)) ++
  ([(0x7F, .ldAA, .a, .a)] :
    List (Byte × Instr × Reg8 × Reg8))

/-- LD r,d8 (R202): opcode, instruction, destination. -/
def loadImmRows : List (Byte × (Byte → Instr) × Reg8) :=
  [(0x06, .ldBD8, .b), (0x0E, .ldCD8, .c), (0x16, .ldDD8, .d), (0x1E, .ldED8, .e), (0x26, .ldHD8, .h),
    (0x2E, .ldLD8, .l), (0x3E, .ldAD8, .a)]

/-- LD r,(HL), LD A,(BC), LD A,(DE), LD A,(C) (R203, R206, R212): opcode, instruction, destination, address. -/
def loadMemRows : List (Byte × Instr × Reg8 × (State → Word)) :=
  [(0x0A, .ldAMemBc, .a, bcAddress), (0x1A, .ldAMemDe, .a, deAddress),
    (0x46, .ldBMemHl, .b, hlAddress), (0x4E, .ldCMemHl, .c, hlAddress),
    (0x56, .ldDMemHl, .d, hlAddress), (0x5E, .ldEMemHl, .e, hlAddress),
    (0x66, .ldHMemHl, .h, hlAddress), (0x6E, .ldLMemHl, .l, hlAddress),
    (0x7E, .ldAMemHl, .a, hlAddress), (0xF2, .ldAMemC, .a, cAddress)]

/-- LD (HL),r, LD (BC),A, LD (DE),A, LD (C),A (R204, R207, R213): opcode, instruction, address, source. -/
def storeRows : List (Byte × Instr × (State → Word) × Reg8) :=
  [(0x02, .ldMemBcA, bcAddress, .a), (0x12, .ldMemDeA, deAddress, .a),
    (0x70, .ldMemHlB, hlAddress, .b), (0x71, .ldMemHlC, hlAddress, .c),
    (0x72, .ldMemHlD, hlAddress, .d), (0x73, .ldMemHlE, hlAddress, .e),
    (0x74, .ldMemHlH, hlAddress, .h), (0x75, .ldMemHlL, hlAddress, .l),
    (0x77, .ldMemHlA, hlAddress, .a), (0xE2, .ldMemCA, cAddress, .a)]

/-- LD rr,d16 (R230): opcode, instruction, destination. -/
def loadWordRows : List (Byte × (Word → Instr) × Reg16) :=
  [(0x01, .ldBcD16, .bc), (0x11, .ldDeD16, .de), (0x21, .ldHlD16, .hl), (0x31, .ldSpD16, .sp)]

/-- PUSH rr (R234): opcode, instruction, source. -/
def pushRows : List (Byte × Instr × StackReg) :=
  [(0xC5, .pushBc, .bc), (0xD5, .pushDe, .de), (0xE5, .pushHl, .hl), (0xF5, .pushAf, .af)]

/-- POP rr and POP AF (R235, R236): opcode, instruction, destination. -/
def popRows : List (Byte × Instr × StackReg) :=
  [(0xC1, .popBc, .bc), (0xD1, .popDe, .de), (0xE1, .popHl, .hl), (0xF1, .popAf, .af)]

/-- The accumulator operations on a register or (HL) (R251-R258): opcode, instruction, operation, operand. -/
def aluRows : List (Byte × Instr × AluOp × Operand8) :=
  ([(0x80, .addAB, .add, .reg .b), (0x81, .addAC, .add, .reg .c), (0x82, .addAD, .add, .reg .d),
     (0x83, .addAE, .add, .reg .e), (0x84, .addAH, .add, .reg .h), (0x85, .addAL, .add, .reg .l),
     (0x86, .addAMemHl, .add, .memHl), (0x87, .addAA, .add, .reg .a), (0x88, .adcAB, .adc, .reg .b),
     (0x89, .adcAC, .adc, .reg .c), (0x8A, .adcAD, .adc, .reg .d), (0x8B, .adcAE, .adc, .reg .e),
     (0x8C, .adcAH, .adc, .reg .h), (0x8D, .adcAL, .adc, .reg .l), (0x8E, .adcAMemHl, .adc, .memHl),
     (0x8F, .adcAA, .adc, .reg .a), (0x90, .subAB, .sub, .reg .b), (0x91, .subAC, .sub, .reg .c),
     (0x92, .subAD, .sub, .reg .d), (0x93, .subAE, .sub, .reg .e), (0x94, .subAH, .sub, .reg .h),
     (0x95, .subAL, .sub, .reg .l), (0x96, .subAMemHl, .sub, .memHl), (0x97, .subAA, .sub, .reg .a)] :
    List (Byte × Instr × AluOp × Operand8)) ++
  ([(0x98, .sbcAB, .sbc, .reg .b), (0x99, .sbcAC, .sbc, .reg .c), (0x9A, .sbcAD, .sbc, .reg .d),
     (0x9B, .sbcAE, .sbc, .reg .e), (0x9C, .sbcAH, .sbc, .reg .h), (0x9D, .sbcAL, .sbc, .reg .l),
     (0x9E, .sbcAMemHl, .sbc, .memHl), (0x9F, .sbcAA, .sbc, .reg .a), (0xA0, .andAB, .and, .reg .b),
     (0xA1, .andAC, .and, .reg .c), (0xA2, .andAD, .and, .reg .d), (0xA3, .andAE, .and, .reg .e),
     (0xA4, .andAH, .and, .reg .h), (0xA5, .andAL, .and, .reg .l), (0xA6, .andAMemHl, .and, .memHl),
     (0xA7, .andAA, .and, .reg .a), (0xA8, .xorAB, .xor, .reg .b), (0xA9, .xorAC, .xor, .reg .c),
     (0xAA, .xorAD, .xor, .reg .d), (0xAB, .xorAE, .xor, .reg .e), (0xAC, .xorAH, .xor, .reg .h),
     (0xAD, .xorAL, .xor, .reg .l), (0xAE, .xorAMemHl, .xor, .memHl), (0xAF, .xorAA, .xor, .reg .a)] :
    List (Byte × Instr × AluOp × Operand8)) ++
  ([(0xB0, .orAB, .or, .reg .b), (0xB1, .orAC, .or, .reg .c), (0xB2, .orAD, .or, .reg .d),
     (0xB3, .orAE, .or, .reg .e), (0xB4, .orAH, .or, .reg .h), (0xB5, .orAL, .or, .reg .l),
     (0xB6, .orAMemHl, .or, .memHl), (0xB7, .orAA, .or, .reg .a), (0xB8, .cpAB, .cp, .reg .b),
     (0xB9, .cpAC, .cp, .reg .c), (0xBA, .cpAD, .cp, .reg .d), (0xBB, .cpAE, .cp, .reg .e),
     (0xBC, .cpAH, .cp, .reg .h), (0xBD, .cpAL, .cp, .reg .l), (0xBE, .cpAMemHl, .cp, .memHl),
     (0xBF, .cpAA, .cp, .reg .a)] :
    List (Byte × Instr × AluOp × Operand8))

/-- The accumulator operations on an immediate (R251-R258): opcode, instruction, operation. -/
def aluImmRows : List (Byte × (Byte → Instr) × AluOp) :=
  [(0xC6, .addAD8, .add), (0xCE, .adcAD8, .adc), (0xD6, .subAD8, .sub), (0xDE, .sbcAD8, .sbc),
    (0xE6, .andAD8, .and), (0xEE, .xorAD8, .xor), (0xF6, .orAD8, .or), (0xFE, .cpAD8, .cp)]

/-- INC r (R259): opcode, instruction, register. -/
def incRows : List (Byte × Instr × Reg8) :=
  [(0x04, .incB, .b), (0x0C, .incC, .c), (0x14, .incD, .d), (0x1C, .incE, .e), (0x24, .incH, .h),
    (0x2C, .incL, .l), (0x3C, .incA, .a)]

/-- DEC r (R261): opcode, instruction, register. -/
def decRows : List (Byte × Instr × Reg8) :=
  [(0x05, .decB, .b), (0x0D, .decC, .c), (0x15, .decD, .d), (0x1D, .decE, .e), (0x25, .decH, .h),
    (0x2D, .decL, .l), (0x3D, .decA, .a)]

/-- INC rr (R280): opcode, instruction, register. -/
def incWordRows : List (Byte × Instr × Reg16) :=
  [(0x03, .incBc, .bc), (0x13, .incDe, .de), (0x23, .incHl, .hl), (0x33, .incSp, .sp)]

/-- DEC rr (R281): opcode, instruction, register. -/
def decWordRows : List (Byte × Instr × Reg16) :=
  [(0x0B, .decBc, .bc), (0x1B, .decDe, .de), (0x2B, .decHl, .hl), (0x3B, .decSp, .sp)]

/-- ADD HL,rr (R282): opcode, instruction, second operand. -/
def addHlRows : List (Byte × Instr × Reg16) :=
  [(0x09, .addHlBc, .bc), (0x19, .addHlDe, .de), (0x29, .addHlHl, .hl), (0x39, .addHlSp, .sp)]

/-- RLCA, RRCA, RLA, RRA (R290-R293): opcode, instruction, operation. -/
def rotateARows : List (Byte × Instr × RotOp) :=
  [(0x07, .rlca, .rlc), (0x0F, .rrca, .rrc), (0x17, .rla, .rl), (0x1F, .rra, .rr)]

/-- The rotates and shifts of the 0xCB page (R295-R302): second byte, instruction, operation, operand. -/
def rotateRows : List (Byte × Instr × RotOp × Operand8) :=
  ([(0x00, .cbRlcB, .rlc, .reg .b), (0x01, .cbRlcC, .rlc, .reg .c), (0x02, .cbRlcD, .rlc, .reg .d),
     (0x03, .cbRlcE, .rlc, .reg .e), (0x04, .cbRlcH, .rlc, .reg .h), (0x05, .cbRlcL, .rlc, .reg .l),
     (0x06, .cbRlcMemHl, .rlc, .memHl), (0x07, .cbRlcA, .rlc, .reg .a), (0x08, .cbRrcB, .rrc, .reg .b),
     (0x09, .cbRrcC, .rrc, .reg .c), (0x0A, .cbRrcD, .rrc, .reg .d), (0x0B, .cbRrcE, .rrc, .reg .e),
     (0x0C, .cbRrcH, .rrc, .reg .h), (0x0D, .cbRrcL, .rrc, .reg .l), (0x0E, .cbRrcMemHl, .rrc, .memHl),
     (0x0F, .cbRrcA, .rrc, .reg .a), (0x10, .cbRlB, .rl, .reg .b), (0x11, .cbRlC, .rl, .reg .c),
     (0x12, .cbRlD, .rl, .reg .d), (0x13, .cbRlE, .rl, .reg .e), (0x14, .cbRlH, .rl, .reg .h),
     (0x15, .cbRlL, .rl, .reg .l), (0x16, .cbRlMemHl, .rl, .memHl), (0x17, .cbRlA, .rl, .reg .a)] :
    List (Byte × Instr × RotOp × Operand8)) ++
  ([(0x18, .cbRrB, .rr, .reg .b), (0x19, .cbRrC, .rr, .reg .c), (0x1A, .cbRrD, .rr, .reg .d),
     (0x1B, .cbRrE, .rr, .reg .e), (0x1C, .cbRrH, .rr, .reg .h), (0x1D, .cbRrL, .rr, .reg .l),
     (0x1E, .cbRrMemHl, .rr, .memHl), (0x1F, .cbRrA, .rr, .reg .a), (0x20, .cbSlaB, .sla, .reg .b),
     (0x21, .cbSlaC, .sla, .reg .c), (0x22, .cbSlaD, .sla, .reg .d), (0x23, .cbSlaE, .sla, .reg .e),
     (0x24, .cbSlaH, .sla, .reg .h), (0x25, .cbSlaL, .sla, .reg .l), (0x26, .cbSlaMemHl, .sla, .memHl),
     (0x27, .cbSlaA, .sla, .reg .a), (0x28, .cbSraB, .sra, .reg .b), (0x29, .cbSraC, .sra, .reg .c),
     (0x2A, .cbSraD, .sra, .reg .d), (0x2B, .cbSraE, .sra, .reg .e), (0x2C, .cbSraH, .sra, .reg .h),
     (0x2D, .cbSraL, .sra, .reg .l), (0x2E, .cbSraMemHl, .sra, .memHl), (0x2F, .cbSraA, .sra, .reg .a)] :
    List (Byte × Instr × RotOp × Operand8)) ++
  ([(0x30, .cbSwapB, .swap, .reg .b), (0x31, .cbSwapC, .swap, .reg .c),
     (0x32, .cbSwapD, .swap, .reg .d), (0x33, .cbSwapE, .swap, .reg .e),
     (0x34, .cbSwapH, .swap, .reg .h), (0x35, .cbSwapL, .swap, .reg .l),
     (0x36, .cbSwapMemHl, .swap, .memHl), (0x37, .cbSwapA, .swap, .reg .a),
     (0x38, .cbSrlB, .srl, .reg .b), (0x39, .cbSrlC, .srl, .reg .c), (0x3A, .cbSrlD, .srl, .reg .d),
     (0x3B, .cbSrlE, .srl, .reg .e), (0x3C, .cbSrlH, .srl, .reg .h), (0x3D, .cbSrlL, .srl, .reg .l),
     (0x3E, .cbSrlMemHl, .srl, .memHl), (0x3F, .cbSrlA, .srl, .reg .a)] :
    List (Byte × Instr × RotOp × Operand8))

/-- BIT b,r (R303): second byte, instruction, bit, operand. -/
def bitRows : List (Byte × Instr × Nat × Operand8) :=
  ([(0x40, .cbBit0B, 0, .reg .b), (0x41, .cbBit0C, 0, .reg .c), (0x42, .cbBit0D, 0, .reg .d),
     (0x43, .cbBit0E, 0, .reg .e), (0x44, .cbBit0H, 0, .reg .h), (0x45, .cbBit0L, 0, .reg .l),
     (0x46, .cbBit0MemHl, 0, .memHl), (0x47, .cbBit0A, 0, .reg .a), (0x48, .cbBit1B, 1, .reg .b),
     (0x49, .cbBit1C, 1, .reg .c), (0x4A, .cbBit1D, 1, .reg .d), (0x4B, .cbBit1E, 1, .reg .e),
     (0x4C, .cbBit1H, 1, .reg .h), (0x4D, .cbBit1L, 1, .reg .l), (0x4E, .cbBit1MemHl, 1, .memHl),
     (0x4F, .cbBit1A, 1, .reg .a), (0x50, .cbBit2B, 2, .reg .b), (0x51, .cbBit2C, 2, .reg .c),
     (0x52, .cbBit2D, 2, .reg .d), (0x53, .cbBit2E, 2, .reg .e), (0x54, .cbBit2H, 2, .reg .h),
     (0x55, .cbBit2L, 2, .reg .l), (0x56, .cbBit2MemHl, 2, .memHl), (0x57, .cbBit2A, 2, .reg .a)] :
    List (Byte × Instr × Nat × Operand8)) ++
  ([(0x58, .cbBit3B, 3, .reg .b), (0x59, .cbBit3C, 3, .reg .c), (0x5A, .cbBit3D, 3, .reg .d),
     (0x5B, .cbBit3E, 3, .reg .e), (0x5C, .cbBit3H, 3, .reg .h), (0x5D, .cbBit3L, 3, .reg .l),
     (0x5E, .cbBit3MemHl, 3, .memHl), (0x5F, .cbBit3A, 3, .reg .a), (0x60, .cbBit4B, 4, .reg .b),
     (0x61, .cbBit4C, 4, .reg .c), (0x62, .cbBit4D, 4, .reg .d), (0x63, .cbBit4E, 4, .reg .e),
     (0x64, .cbBit4H, 4, .reg .h), (0x65, .cbBit4L, 4, .reg .l), (0x66, .cbBit4MemHl, 4, .memHl),
     (0x67, .cbBit4A, 4, .reg .a), (0x68, .cbBit5B, 5, .reg .b), (0x69, .cbBit5C, 5, .reg .c),
     (0x6A, .cbBit5D, 5, .reg .d), (0x6B, .cbBit5E, 5, .reg .e), (0x6C, .cbBit5H, 5, .reg .h),
     (0x6D, .cbBit5L, 5, .reg .l), (0x6E, .cbBit5MemHl, 5, .memHl), (0x6F, .cbBit5A, 5, .reg .a)] :
    List (Byte × Instr × Nat × Operand8)) ++
  ([(0x70, .cbBit6B, 6, .reg .b), (0x71, .cbBit6C, 6, .reg .c), (0x72, .cbBit6D, 6, .reg .d),
     (0x73, .cbBit6E, 6, .reg .e), (0x74, .cbBit6H, 6, .reg .h), (0x75, .cbBit6L, 6, .reg .l),
     (0x76, .cbBit6MemHl, 6, .memHl), (0x77, .cbBit6A, 6, .reg .a), (0x78, .cbBit7B, 7, .reg .b),
     (0x79, .cbBit7C, 7, .reg .c), (0x7A, .cbBit7D, 7, .reg .d), (0x7B, .cbBit7E, 7, .reg .e),
     (0x7C, .cbBit7H, 7, .reg .h), (0x7D, .cbBit7L, 7, .reg .l), (0x7E, .cbBit7MemHl, 7, .memHl),
     (0x7F, .cbBit7A, 7, .reg .a)] :
    List (Byte × Instr × Nat × Operand8))

/-- RES b,r (R304): second byte, instruction, bit, operand. -/
def resRows : List (Byte × Instr × Nat × Operand8) :=
  ([(0x80, .cbRes0B, 0, .reg .b), (0x81, .cbRes0C, 0, .reg .c), (0x82, .cbRes0D, 0, .reg .d),
     (0x83, .cbRes0E, 0, .reg .e), (0x84, .cbRes0H, 0, .reg .h), (0x85, .cbRes0L, 0, .reg .l),
     (0x86, .cbRes0MemHl, 0, .memHl), (0x87, .cbRes0A, 0, .reg .a), (0x88, .cbRes1B, 1, .reg .b),
     (0x89, .cbRes1C, 1, .reg .c), (0x8A, .cbRes1D, 1, .reg .d), (0x8B, .cbRes1E, 1, .reg .e),
     (0x8C, .cbRes1H, 1, .reg .h), (0x8D, .cbRes1L, 1, .reg .l), (0x8E, .cbRes1MemHl, 1, .memHl),
     (0x8F, .cbRes1A, 1, .reg .a), (0x90, .cbRes2B, 2, .reg .b), (0x91, .cbRes2C, 2, .reg .c),
     (0x92, .cbRes2D, 2, .reg .d), (0x93, .cbRes2E, 2, .reg .e), (0x94, .cbRes2H, 2, .reg .h),
     (0x95, .cbRes2L, 2, .reg .l), (0x96, .cbRes2MemHl, 2, .memHl), (0x97, .cbRes2A, 2, .reg .a)] :
    List (Byte × Instr × Nat × Operand8)) ++
  ([(0x98, .cbRes3B, 3, .reg .b), (0x99, .cbRes3C, 3, .reg .c), (0x9A, .cbRes3D, 3, .reg .d),
     (0x9B, .cbRes3E, 3, .reg .e), (0x9C, .cbRes3H, 3, .reg .h), (0x9D, .cbRes3L, 3, .reg .l),
     (0x9E, .cbRes3MemHl, 3, .memHl), (0x9F, .cbRes3A, 3, .reg .a), (0xA0, .cbRes4B, 4, .reg .b),
     (0xA1, .cbRes4C, 4, .reg .c), (0xA2, .cbRes4D, 4, .reg .d), (0xA3, .cbRes4E, 4, .reg .e),
     (0xA4, .cbRes4H, 4, .reg .h), (0xA5, .cbRes4L, 4, .reg .l), (0xA6, .cbRes4MemHl, 4, .memHl),
     (0xA7, .cbRes4A, 4, .reg .a), (0xA8, .cbRes5B, 5, .reg .b), (0xA9, .cbRes5C, 5, .reg .c),
     (0xAA, .cbRes5D, 5, .reg .d), (0xAB, .cbRes5E, 5, .reg .e), (0xAC, .cbRes5H, 5, .reg .h),
     (0xAD, .cbRes5L, 5, .reg .l), (0xAE, .cbRes5MemHl, 5, .memHl), (0xAF, .cbRes5A, 5, .reg .a)] :
    List (Byte × Instr × Nat × Operand8)) ++
  ([(0xB0, .cbRes6B, 6, .reg .b), (0xB1, .cbRes6C, 6, .reg .c), (0xB2, .cbRes6D, 6, .reg .d),
     (0xB3, .cbRes6E, 6, .reg .e), (0xB4, .cbRes6H, 6, .reg .h), (0xB5, .cbRes6L, 6, .reg .l),
     (0xB6, .cbRes6MemHl, 6, .memHl), (0xB7, .cbRes6A, 6, .reg .a), (0xB8, .cbRes7B, 7, .reg .b),
     (0xB9, .cbRes7C, 7, .reg .c), (0xBA, .cbRes7D, 7, .reg .d), (0xBB, .cbRes7E, 7, .reg .e),
     (0xBC, .cbRes7H, 7, .reg .h), (0xBD, .cbRes7L, 7, .reg .l), (0xBE, .cbRes7MemHl, 7, .memHl),
     (0xBF, .cbRes7A, 7, .reg .a)] :
    List (Byte × Instr × Nat × Operand8))

/-- SET b,r (R305): second byte, instruction, bit, operand. -/
def setRows : List (Byte × Instr × Nat × Operand8) :=
  ([(0xC0, .cbSet0B, 0, .reg .b), (0xC1, .cbSet0C, 0, .reg .c), (0xC2, .cbSet0D, 0, .reg .d),
     (0xC3, .cbSet0E, 0, .reg .e), (0xC4, .cbSet0H, 0, .reg .h), (0xC5, .cbSet0L, 0, .reg .l),
     (0xC6, .cbSet0MemHl, 0, .memHl), (0xC7, .cbSet0A, 0, .reg .a), (0xC8, .cbSet1B, 1, .reg .b),
     (0xC9, .cbSet1C, 1, .reg .c), (0xCA, .cbSet1D, 1, .reg .d), (0xCB, .cbSet1E, 1, .reg .e),
     (0xCC, .cbSet1H, 1, .reg .h), (0xCD, .cbSet1L, 1, .reg .l), (0xCE, .cbSet1MemHl, 1, .memHl),
     (0xCF, .cbSet1A, 1, .reg .a), (0xD0, .cbSet2B, 2, .reg .b), (0xD1, .cbSet2C, 2, .reg .c),
     (0xD2, .cbSet2D, 2, .reg .d), (0xD3, .cbSet2E, 2, .reg .e), (0xD4, .cbSet2H, 2, .reg .h),
     (0xD5, .cbSet2L, 2, .reg .l), (0xD6, .cbSet2MemHl, 2, .memHl), (0xD7, .cbSet2A, 2, .reg .a)] :
    List (Byte × Instr × Nat × Operand8)) ++
  ([(0xD8, .cbSet3B, 3, .reg .b), (0xD9, .cbSet3C, 3, .reg .c), (0xDA, .cbSet3D, 3, .reg .d),
     (0xDB, .cbSet3E, 3, .reg .e), (0xDC, .cbSet3H, 3, .reg .h), (0xDD, .cbSet3L, 3, .reg .l),
     (0xDE, .cbSet3MemHl, 3, .memHl), (0xDF, .cbSet3A, 3, .reg .a), (0xE0, .cbSet4B, 4, .reg .b),
     (0xE1, .cbSet4C, 4, .reg .c), (0xE2, .cbSet4D, 4, .reg .d), (0xE3, .cbSet4E, 4, .reg .e),
     (0xE4, .cbSet4H, 4, .reg .h), (0xE5, .cbSet4L, 4, .reg .l), (0xE6, .cbSet4MemHl, 4, .memHl),
     (0xE7, .cbSet4A, 4, .reg .a), (0xE8, .cbSet5B, 5, .reg .b), (0xE9, .cbSet5C, 5, .reg .c),
     (0xEA, .cbSet5D, 5, .reg .d), (0xEB, .cbSet5E, 5, .reg .e), (0xEC, .cbSet5H, 5, .reg .h),
     (0xED, .cbSet5L, 5, .reg .l), (0xEE, .cbSet5MemHl, 5, .memHl), (0xEF, .cbSet5A, 5, .reg .a)] :
    List (Byte × Instr × Nat × Operand8)) ++
  ([(0xF0, .cbSet6B, 6, .reg .b), (0xF1, .cbSet6C, 6, .reg .c), (0xF2, .cbSet6D, 6, .reg .d),
     (0xF3, .cbSet6E, 6, .reg .e), (0xF4, .cbSet6H, 6, .reg .h), (0xF5, .cbSet6L, 6, .reg .l),
     (0xF6, .cbSet6MemHl, 6, .memHl), (0xF7, .cbSet6A, 6, .reg .a), (0xF8, .cbSet7B, 7, .reg .b),
     (0xF9, .cbSet7C, 7, .reg .c), (0xFA, .cbSet7D, 7, .reg .d), (0xFB, .cbSet7E, 7, .reg .e),
     (0xFC, .cbSet7H, 7, .reg .h), (0xFD, .cbSet7L, 7, .reg .l), (0xFE, .cbSet7MemHl, 7, .memHl),
     (0xFF, .cbSet7A, 7, .reg .a)] :
    List (Byte × Instr × Nat × Operand8))

/-- JP cc,a16 (R322): opcode, instruction, condition. -/
def jumpIfRows : List (Byte × (Word → Instr) × Cond) :=
  [(0xC2, .jpNzA16, .nz), (0xCA, .jpZA16, .z), (0xD2, .jpNcA16, .nc), (0xDA, .jpCA16, .c)]

/-- JR cc,e8 (R325): opcode, instruction, condition. -/
def jumpRelIfRows : List (Byte × (Byte → Instr) × Cond) :=
  [(0x20, .jrNzE8, .nz), (0x28, .jrZE8, .z), (0x30, .jrNcE8, .nc), (0x38, .jrCE8, .c)]

/-- CALL cc,a16 (R327): opcode, instruction, condition. -/
def callIfRows : List (Byte × (Word → Instr) × Cond) :=
  [(0xC4, .callNzA16, .nz), (0xCC, .callZA16, .z), (0xD4, .callNcA16, .nc), (0xDC, .callCA16, .c)]

/-- RET cc (R329): opcode, instruction, condition. -/
def retIfRows : List (Byte × Instr × Cond) :=
  [(0xC0, .retNz, .nz), (0xC8, .retZ, .z), (0xD0, .retNc, .nc), (0xD8, .retC, .c)]

/-- RST n (R331): opcode, instruction, vector. -/
def rstRows : List (Byte × Instr × Word) :=
  [(0xC7, .rst00, 0x0000), (0xCF, .rst08, 0x0008), (0xD7, .rst10, 0x0010), (0xDF, .rst18, 0x0018),
    (0xE7, .rst20, 0x0020), (0xEF, .rst28, 0x0028), (0xF7, .rst30, 0x0030), (0xFF, .rst38, 0x0038)]

/-- The eleven illegal opcodes (R155, R345): opcode, instruction. -/
def illegalRows : List (Byte × Instr) :=
  [(0xD3, .illegalD3), (0xDB, .illegalDB), (0xDD, .illegalDD), (0xE3, .illegalE3), (0xE4, .illegalE4),
    (0xEB, .illegalEB), (0xEC, .illegalEC), (0xED, .illegalED), (0xF4, .illegalF4), (0xFC, .illegalFC),
    (0xFD, .illegalFD)]

/-- The condition of a conditional opcode (R145): JR cc, JP cc, CALL cc and RET cc. -/
def conditionOf (op : Byte) : Option Cond :=
  if op ∈ [0x20, 0xC0, 0xC2, 0xC4] then some .nz
  else if op ∈ [0x28, 0xC8, 0xCA, 0xCC] then some .z
  else if op ∈ [0x30, 0xD0, 0xD2, 0xD4] then some .nc
  else if op ∈ [0x38, 0xD8, 0xDA, 0xDC] then some .c
  else none

/-- The condition of an instruction fails. -/
def conditionFails (s : State) (bytes : List Byte) : Prop :=
  ∃ cc, conditionOf (bytes.headD 0) = some cc ∧ ¬condHolds s cc

/-- The `machine_cycles` of the opcode table's main page, sixteen opcodes a row (R589). -/
def mainCycles : List Nat :=
  [[1, 3, 2, 2, 1, 1, 2, 1, 5, 2, 2, 2, 1, 1, 2, 1],
     [1, 3, 2, 2, 1, 1, 2, 1, 3, 2, 2, 2, 1, 1, 2, 1],
     [3, 3, 2, 2, 1, 1, 2, 1, 3, 2, 2, 2, 1, 1, 2, 1],
     [3, 3, 2, 2, 3, 3, 3, 1, 3, 2, 2, 2, 1, 1, 2, 1],
     [1, 1, 1, 1, 1, 1, 2, 1, 1, 1, 1, 1, 1, 1, 2, 1],
     [1, 1, 1, 1, 1, 1, 2, 1, 1, 1, 1, 1, 1, 1, 2, 1],
     [1, 1, 1, 1, 1, 1, 2, 1, 1, 1, 1, 1, 1, 1, 2, 1],
     [2, 2, 2, 2, 2, 2, 1, 2, 1, 1, 1, 1, 1, 1, 2, 1],
     [1, 1, 1, 1, 1, 1, 2, 1, 1, 1, 1, 1, 1, 1, 2, 1],
     [1, 1, 1, 1, 1, 1, 2, 1, 1, 1, 1, 1, 1, 1, 2, 1],
     [1, 1, 1, 1, 1, 1, 2, 1, 1, 1, 1, 1, 1, 1, 2, 1],
     [1, 1, 1, 1, 1, 1, 2, 1, 1, 1, 1, 1, 1, 1, 2, 1],
     [5, 3, 4, 4, 6, 4, 2, 4, 5, 4, 4, 1, 6, 6, 2, 4],
     [5, 3, 4, 1, 6, 4, 2, 4, 5, 4, 4, 1, 6, 1, 2, 4],
     [3, 3, 2, 1, 1, 4, 2, 4, 4, 1, 4, 1, 1, 1, 2, 4],
     [3, 3, 2, 1, 1, 4, 2, 4, 3, 2, 4, 1, 1, 1, 2, 4]].flatten

/-- The machine cycles of an instruction, fetch and effect together (R189, R589): its row's `machine_cycles`, or
`machine_cycles_not_taken` where its condition fails; on the 0xCB page 2 for a register, and for (HL) 3 for
BIT and 4 for the others. -/
def machineCycles (bytes : List Byte) (notTaken : Bool) : Nat :=
  match bytes with
  | 0xCB :: op2 :: _ =>
    if op2.toNat % 8 ≠ 6 then 2 else if op2.toNat / 64 = 1 then 3 else 4
  | op :: _ =>
    if notTaken then
      (if op ∈ [0xC2, 0xCA, 0xD2, 0xDA, 0xC4, 0xCC, 0xD4, 0xDC] then 3 else 2)
    else mainCycles.getD op.toNat 0
  | [] => 0

/-- The main-page opcodes with internal cycles (R189): opcode, the internal cycles in each place of the effect,
and those where the condition fails. -/
def internalRows : List (Byte × List Nat × Nat) :=
  [(0x03, [1], 0), (0x13, [1], 0), (0x23, [1], 0), (0x33, [1], 0), (0x0B, [1], 0), (0x1B, [1], 0),
    (0x2B, [1], 0), (0x3B, [1], 0), (0x09, [1], 0), (0x19, [1], 0), (0x29, [1], 0), (0x39, [1], 0),
    (0xF8, [1], 0), (0xF9, [1], 0), (0xE8, [2], 0), (0x18, [1], 0), (0x20, [1], 0), (0x28, [1], 0),
    (0x30, [1], 0), (0x38, [1], 0), (0xC3, [1], 0), (0xC2, [1], 0), (0xCA, [1], 0), (0xD2, [1], 0)] ++
  [(0xDA, [1], 0), (0xC5, [1, 0, 0], 0), (0xD5, [1, 0, 0], 0), (0xE5, [1, 0, 0], 0),
    (0xF5, [1, 0, 0], 0), (0xCD, [1, 0, 0], 0), (0xC4, [1, 0, 0], 0), (0xCC, [1, 0, 0], 0),
    (0xD4, [1, 0, 0], 0), (0xDC, [1, 0, 0], 0), (0xC7, [1, 0, 0], 0), (0xCF, [1, 0, 0], 0),
    (0xD7, [1, 0, 0], 0), (0xDF, [1, 0, 0], 0), (0xE7, [1, 0, 0], 0), (0xEF, [1, 0, 0], 0),
    (0xF7, [1, 0, 0], 0), (0xFF, [1, 0, 0], 0), (0xC9, [0, 0, 1], 0), (0xD9, [0, 0, 1], 0),
    (0xC0, [1, 0, 1], 1), (0xC8, [1, 0, 1], 1), (0xD0, [1, 0, 1], 1), (0xD8, [1, 0, 1], 1)]

end Sys2Proof.Claims
end

