-- ==== Sys2Proof/Certificates/Slice0/Obligations.lean ====
section
/-! DEFINITION. The statements for the provers. -/

open Sys2Proof Sys2Proof.Machine Sys2Proof.Claims

/-! ## Encoding -/

/-- Decoding an encoded instruction gives it back, with every operand at every value and whatever bytes
follow (30_encoding.md R140-R157). -/
def Obligations.DecodeEncode : Prop :=
  ∀ (i : Instr) (rest : List Byte), i.wf = true → decode (encode i ++ rest) = .ok (i, rest)

/-- Every byte string that decodes is an encoding of what it decodes to: each word has one meaning. STOP's
second byte is unused (R156). That the lone byte 0xCB is read as the prefix instruction is the model's DESIGN
CHOICE (log 10): R346 says that 0xCB is never an instruction of its own. -/
def Obligations.EncodeDecode : Prop :=
  ∀ (bs : List Byte) (i : Instr) (rest : List Byte), decode bs = .ok (i, rest) →
    (i = .stop ∧ ∃ tail, bs = 0x10 :: tail ∧ rest = tail.drop 1) ∨
    (i = .prefixCb ∧ bs = [0xCB] ∧ rest = []) ∨
    (i ≠ .stop ∧ i.wf = true ∧ bs = encode i ++ rest)

/-- Every opcode has a handler: any three bytes decode to an instruction (R157, R192). -/
def Obligations.EveryOpcodeDecodes : Prop :=
  ∀ (b0 b1 b2 : Byte) (rest : List Byte),
    ∃ i rest', decode (b0 :: b1 :: b2 :: rest) = .ok (i, rest') ∧ i.wf = true

/-- Words of each family, written out from R150-R154: one sanity statement. -/
def Obligations.DecodeWords : Prop :=
  decode [0b01001000] = .ok (.ldCB, []) ∧
  decode [0b00111110, 0x5A] = .ok (.ldAD8 0x5A, []) ∧
  decode [0b11101010, 0x80, 0xFF] = .ok (.ldMemA16A 0xFF80, []) ∧
  decode [0b00110001, 0xFE, 0xFF] = .ok (.ldSpD16 0xFFFE, []) ∧
  decode [0b11110001] = .ok (.popAf, []) ∧
  decode [0b10011110] = .ok (.sbcAMemHl, []) ∧
  decode [0b11101000, 0x80] = .ok (.addSpE8 0x80, []) ∧
  decode [0b00101001] = .ok (.addHlHl, []) ∧
  decode [0xCB, 0b00110111] = .ok (.cbSwapA, []) ∧
  decode [0xCB, 0b01111100] = .ok (.cbBit7H, []) ∧
  decode [0xCB, 0b11011110] = .ok (.cbSet3MemHl, []) ∧
  decode [0b11010100, 0x00, 0x40] = .ok (.callNcA16 0x4000, []) ∧
  decode [0b11101111] = .ok (.rst28, []) ∧
  decode [0b01110110] = .ok (.halt, []) ∧
  decode [0b11011101] = .ok (.illegalDD, [])

/-! ## The step -/

/-- A step runs the decoded instruction: where the bytes at PC are those of a well-formed instruction
(of STOP the opcode byte, the only one fetched), the step fetches it in one machine cycle a byte and the
internal cycles `CYCLE_TABLE` puts between the bytes, PC past them, and is exec of it, followed by the end of
the step unless the machine stopped (R180-R183, R189). -/
def Obligations.StepRunsDecoded : Prop :=
  ∀ (s : State) (i : Instr) (bytes : List Byte), Live s → s.cpu.halted = false → i.wf = true →
    bytes = (if i = .stop then [0x10] else encode i) → s.HoldsBytes s.cpu.pc bytes →
    ∃ u, fetch s = .ok i u ∧ Live u ∧
      Elapsed (fetchCycles s bytes) (s.setPc (s.cpu.pc + BitVec.ofNat 16 bytes.length)) u ∧
      step s = afterExec (exec i u) ∧
      (∀ t, exec i u = .next t → t.status = .running → step s = finish (endOfStep t)) ∧
      (∀ t, exec i u = .next t → t.status ≠ .running → step s = .next t)

/-- A stopped machine has no step: it answers why it stopped (R38, R411, R412). -/
def Obligations.StoppedMachineTakesNoStep : Prop :=
  ∀ s : State, (∀ f, s.status = .faulted f → step s = .fault f) ∧
    (∀ r, s.status = .refused r → step s = .refused r)

/-- The halted step (R186): one machine cycle; halted is cleared if any of the five request bits is set,
whatever IE and IME are; then the end of the step. -/
def Obligations.HaltedStep : Prop :=
  ∀ s : State, Live s → s.cpu.halted = true →
    ∃ u, Live u ∧ Elapsed 1 s u ∧
      (u.irq.req ≠ 0 → step s = finish (endOfStep { u with cpu := { u.cpu with halted := false } })) ∧
      (u.irq.req = 0 → step s = finish (endOfStep u))

/-- The end of a step (R187): with IME set, the dispatch, and the pending enable is dropped; with IME clear, no
dispatch, and a pending enable sets IME. -/
def Obligations.EndOfStep : Prop :=
  ∀ s : State,
    (s.cpu.ime = true → endOfStep s = (dispatch s).andThen fun _ t =>
      .ok () { t with cpu := { t.cpu with imePending := false } }) ∧
    (s.cpu.ime = false → s.cpu.imePending = true →
      endOfStep s = .ok () { s with cpu := { s.cpu with ime := true, imePending := false } }) ∧
    (s.cpu.ime = false → s.cpu.imePending = false → endOfStep s = .ok () s)

/-- Taking an interrupt (R406, R404, R407): of the sources pending and enabled the one of the lowest bit
number `k` is taken; PC is pushed in two machine cycles, whatever `CYCLE_TABLE` is; PC goes to 0x0040 + 8 k;
the source's request bit, IME and halted are cleared. With none, nothing happens. The push is one whose stores
are not refused (R87). -/
def Obligations.DispatchTakesInterrupt : Prop :=
  ∀ s : State, Live s →
    ((∀ k < 5, (s.irq.ie.getLsbD k && s.irq.req.getLsbD k) = false) → dispatch s = .ok () s) ∧
    ∀ k < 5, s.Pushable s.cpu.pc → (s.irq.ie.getLsbD k && s.irq.req.getLsbD k) = true →
      (∀ j < k, (s.irq.ie.getLsbD j && s.irq.req.getLsbD j) = false) →
      ∃ m, Live m ∧ Pushed 0 0 s.cpu.pc s m ∧
        dispatch s = .ok () { m with
          cpu := { m.cpu with pc := BitVec.ofNat 16 (0x40 + 8 * k), ime := false, halted := false }
          irq := { m.irq with req := m.irq.req &&& ~~~(1#5 <<< k) } }

/-- EI with IME clear enables at the end of its own step, with no dispatch whatever is pending; DI disables
at once (R343, R344, R577). Each step is one fetch cycle and the instruction's internal cycles (R189). -/
def Obligations.EnableLatency : Prop :=
  ∀ s : State, Live s → s.cpu.halted = false →
    (s.cpu.ime = false → s.HoldsBytes s.cpu.pc [0xFB] →
      ∃ u, Elapsed (1 + gap s (.main 0xFB) 0) (s.setPc (s.cpu.pc + 1)) u ∧
        step s = .next { u with cpu := { s.cpu with pc := s.cpu.pc + 1, ime := true, imePending := false } }) ∧
    (s.HoldsBytes s.cpu.pc [0xF3] →
      ∃ u, Elapsed (1 + gap s (.main 0xF3) 0) (s.setPc (s.cpu.pc + 1)) u ∧
        step s = .next { u with
          cpu := { s.cpu with pc := s.cpu.pc + 1, ime := false, imePending := false } })

/-- `CYCLE_TABLE` (R188, R189, R589). A listed line is an opcode's line; the accesses stay the instruction's
own whatever it says (the statements per instruction). With the default table an instruction's fetch and
effect cost together the machine cycles of its row of the opcode table, the not-taken number where its
condition fails; the internal cycles stand where its `Cycles` line has them, and none between fetched bytes. -/
def Obligations.InstructionCycles : Prop :=
  ∀ s : State,
    (∀ o line rest, s.params.cycleTable = (o, line) :: rest → s.cycleLine o = line) ∧
    (s.params.cycleTable = [] →
      (∀ (i : Instr) (t : State), i.wf = true → exec i s = .next t → t.status = .running →
        (¬conditionFails s (encode i) →
          (encode i).length + t.cycles = s.cycles + machineCycles (encode i) false) ∧
        (conditionFails s (encode i) →
          (encode i).length + t.cycles = s.cycles + machineCycles (encode i) true)) ∧
      (∀ op taken notTaken, (op, taken, notTaken) ∈ internalRows →
        (∀ k, gap s (.main op) k = taken.getD k 0) ∧ gapNotTaken s (.main op) = notTaken) ∧
      (∀ op, (∀ row ∈ internalRows, row.1 ≠ op) →
        (∀ k, gap s (.main op) k = 0) ∧ gapNotTaken s (.main op) = 0) ∧
      (∀ op2 k, gap s (.cb op2) k = 0) ∧
      ∀ bytes, fetchCycles s bytes = bytes.length)

/-! ## The invariant and power-on -/

/-- The invariant holds after reset, and the machine runs there and is live and sound. That reset is of a
DMG console with memory reading as 0 is the model's choice (logs 1 and 3). -/
def Obligations.ResetSound : Prop :=
  Inv State.reset ∧ Live State.reset ∧ Sound State.reset

/-- Every step keeps the invariant: canonical memories inside their sizes, the low nibble of F clear, the
line and tick position of the PPU and its pipeline, the bounds of the FIFO, the sprite lists, OAM DMA and
HDMA, no enable of interrupts pending between steps. -/
def Obligations.StepKeepsInv : Prop :=
  ∀ s t : State, Inv s → step s = .next t → Inv t

/-- The CPU and the interrupt registers at power-on (R60): in each mode those of `RESET_PROFILE`, whose default
has the values of R60. -/
def Obligations.PowerOnCpu : Prop :=
  (∀ (p : Params) (r : ResetProfile) (divReset : Word) (m : Mem) (dv : Devices),
    let s := State.powerOn p r divReset m dv
    let profile := if p.mode = .dmg then r.dmg else r.cgb
    s.cpu = profile.cpu ∧ s.irq = profile.irq ∧ s.status = profile.status) ∧
  ∀ (p : Params) (divReset : Word) (m : Mem) (dv : Devices),
    let s := State.powerOn p ResetProfile.default divReset m dv
    (p.mode = .dmg → s.cpu =
      { a := 0x01, f := 0xB0, b := 0x00, c := 0x13, d := 0x00, e := 0xD8, h := 0x01, l := 0x4D,
        sp := 0xFFFE, pc := 0x0100, halted := false, ime := false, imePending := false }) ∧
    (p.mode = .cgb → s.cpu =
      { a := 0x11, f := 0x80, b := 0x00, c := 0x00, d := 0xFF, e := 0x56, h := 0x00, l := 0x0D,
        sp := 0xFFFE, pc := 0x0100, halted := false, ime := false, imePending := false }) ∧
    s.irq = { ie := 0x00, req := 0 } ∧ s.status = .running

/-- The rest of the machine at power-on (R61, R62, R571): the devices as `RESET_PROFILE` gives them, whose
default has the values of R61, read through the bus where a program sees them; the PPU's position and its
pipeline (R62); the divider, the memories and the external devices as given; nothing recorded. That the model's
reset has the divider 0xABCC, the default `DIV_RESET` of a DMG console, is the model's choice of that console
and that default (logs 3 and 8). -/
def Obligations.PowerOnDevices : Prop :=
  (∀ (p : Params) (r : ResetProfile) (divReset : Word) (m : Mem) (dv : Devices),
    let s := State.powerOn p r divReset m dv
    s.params = p ∧ s.timer = { div := divReset, tima := r.devices.tima, tma := r.devices.tma,
                               tac := r.devices.tac } ∧
    s.dma = r.devices.dma ∧ s.hdma = r.devices.hdma ∧ s.lcd = r.devices.lcd ∧
    s.mem.svbk = r.devices.svbk ∧
    s.ppu = { lineTicks := 0, lineSprites := [], windowLatch := false, windowLine := 0x00,
              windowDrawn := false } ∧
    s.pipe.fetchState = .tile ∧ s.pipe.fetchX = 0 ∧ s.pipe.lineX = 0 ∧ s.pipe.pushedX = 0 ∧
    s.pipe.fifoX = 0 ∧ s.pipe.scxFine = 0 ∧ s.pipe.fetchWindow = false ∧ s.pipe.tileNo = 0 ∧
    s.pipe.tileLo = 0 ∧ s.pipe.tileHi = 0 ∧ s.pipe.fetched = [] ∧ s.pipe.fifo = [] ∧
    s.mem.vram = m.vram ∧ s.mem.oam = m.oam ∧ s.mem.wram = m.wram ∧
    s.mem.hram = m.hram ∧ s.mem.framebuffer = m.framebuffer ∧ s.dev = dv ∧ s.events = []) ∧
  (∀ (p : Params) (divReset : Word) (m : Mem) (dv : Devices),
    let s := State.powerOn p ResetProfile.default divReset m dv
    s.timer = { div := divReset, tima := 0x00, tma := 0x00, tac := 0 } ∧
    s.dma = { active := false, delay := 0, page := 0x00, index := 0, reg := 0xFF } ∧
    s.hdma = { active := false, hblank := false, src := 0x0000, dst := 0x8000, remaining := 0,
               hdma1 := 0x00, hdma2 := 0x00, hdma3 := 0x00, hdma4 := 0x00 } ∧
    s.lcd = { lcdc := 0x91, statEnables := 0, coincidence := true, mode := .oamScan, scy := 0x00,
              scx := 0x00, ly := 0x00, lyc := 0x00, bgp := 0xFC, obp0 := 0xFF, obp1 := 0xFF, wy := 0x00,
              wx := 0x00 } ∧
    s.mem.svbk = 0 ∧ s.peek 0xFF07 = 0xF8 ∧ s.peek 0xFF41 = 0x86 ∧
    (p.mode = .cgb → s.peek 0xFF55 = 0xFF ∧ s.peek 0xFF70 = 0xF8)) ∧
  State.reset.timer.div = 0xABCC

/-! ## The bus -/

/-- The bus outside the I/O block (R80-R83, R85, R89, R90): who answers a read, and what a write changes. -/
def Obligations.BusRanges : Prop :=
  ∀ (s : State) (a : Word) (v : Byte),
    (a.toNat < 0x8000 ∨ (0xA000 ≤ a.toNat ∧ a.toNat < 0xC000) →
      busRead a s = .ok (Device.read .cart s.dev.cart a) s ∧
      busWrite a v s = .ok () { s with dev := { s.dev with cart := Device.write s.dev.cart a v } }) ∧
    (0x8000 ≤ a.toNat ∧ a.toNat < 0xA000 →
      busRead a s = .ok (Cells.get s.mem.vram (a.toNat - 0x8000)) s ∧
      busWrite a v s = .ok () { s with
        mem := { s.mem with vram := Cells.set s.mem.vram (a.toNat - 0x8000) v } }) ∧
    (0xC000 ≤ a.toNat ∧ a.toNat < 0xD000 →
      busRead a s = .ok (Cells.get s.mem.wram (a.toNat - 0xC000)) s ∧
      busWrite a v s = .ok () { s with
        mem := { s.mem with wram := Cells.set s.mem.wram (a.toNat - 0xC000) v } }) ∧
    (∀ bank, bank = (if s.params.mode = .dmg ∨ s.mem.svbk = 0 then 1 else s.mem.svbk.toNat) →
      0xD000 ≤ a.toNat ∧ a.toNat < 0xE000 →
      busRead a s = .ok (Cells.get s.mem.wram (bank * 0x1000 + (a.toNat - 0xD000))) s ∧
      busWrite a v s = .ok () { s with
        mem := { s.mem with wram := Cells.set s.mem.wram (bank * 0x1000 + (a.toNat - 0xD000)) v } }) ∧
    (0xFE00 ≤ a.toNat ∧ a.toNat < 0xFEA0 →
      busRead a s = .ok (Cells.get s.mem.oam (a.toNat - 0xFE00)) s ∧
      busWrite a v s = .ok () { s with
        mem := { s.mem with oam := Cells.set s.mem.oam (a.toNat - 0xFE00) v } }) ∧
    (0xFF80 ≤ a.toNat ∧ a.toNat < 0xFFFF →
      busRead a s = .ok (Cells.get s.mem.hram (a.toNat - 0xFF80)) s ∧
      busWrite a v s = .ok () { s with
        mem := { s.mem with hram := Cells.set s.mem.hram (a.toNat - 0xFF80) v } }) ∧
    (a = 0xFFFF →
      busRead a s = .ok s.irq.ie s ∧ busWrite a v s = .ok () { s with irq := { s.irq with ie := v } })

/-- The addresses without an owner. The echo range and the unmapped range (R84, R86): a read returns 0, a
write changes nothing, no warning is recorded. Unhandled I/O registers (R88): a read returns 0 and a write
changes nothing, each recording a warning; in DMG mode the CGB registers are unhandled too. -/
def Obligations.UnownedAddresses : Prop :=
  (∀ (s : State) (a : Word) (v : Byte),
    (0xE000 ≤ a.toNat ∧ a.toNat ≤ 0xFDFF) ∨ (0xFEA0 ≤ a.toNat ∧ a.toNat ≤ 0xFEFF) →
    busRead a s = .ok 0x00 s ∧ busWrite a v s = .ok () s) ∧
  ∀ (s : State) (n : Nat) (v : Byte),
    (n = 0x03 ∨ (0x08 ≤ n ∧ n ≤ 0x0E) ∨ n = 0x4C ∨ n = 0x4E ∨ n = 0x50 ∨ (0x56 ≤ n ∧ n ≤ 0x67) ∨
      (0x6C ≤ n ∧ n ≤ 0x6F) ∨ (0x71 ≤ n ∧ n ≤ 0x7F) ∨
      (s.params.mode = .dmg ∧ (n = 0x4D ∨ n = 0x4F ∨ (0x51 ≤ n ∧ n ≤ 0x55) ∨ (0x68 ≤ n ∧ n ≤ 0x6B) ∨
        n = 0x70))) →
    busRead (BitVec.ofNat 16 (0xFF00 + n)) s =
      .ok 0x00 { s with events := s.events ++ [.warning (BitVec.ofNat 16 (0xFF00 + n))] } ∧
    busWrite (BitVec.ofNat 16 (0xFF00 + n)) v s =
      .ok () { s with events := s.events ++ [.warning (BitVec.ofNat 16 (0xFF00 + n))] }

/-- The colour-mode video registers in CGB mode (R87): with `CGB_VIDEO_IO` = refuse an access is refused and
changes nothing else; with benign they are unhandled (R88). -/
def Obligations.ColourVideoIo : Prop :=
  ∀ (s : State) (n : Nat) (v : Byte), s.params.mode = .cgb →
    (n = 0x4D ∨ n = 0x4F ∨ (0x68 ≤ n ∧ n ≤ 0x6B)) →
    (s.params.cgbVideoIo = .refuse →
      busRead (BitVec.ofNat 16 (0xFF00 + n)) s =
        .stop { s with status := .refused (.refusedCgbVideo (BitVec.ofNat 16 (0xFF00 + n))) } ∧
      busWrite (BitVec.ofNat 16 (0xFF00 + n)) v s =
        .stop { s with status := .refused (.refusedCgbVideo (BitVec.ofNat 16 (0xFF00 + n))) }) ∧
    (s.params.cgbVideoIo = .benign →
      busRead (BitVec.ofNat 16 (0xFF00 + n)) s =
        .ok 0x00 { s with events := s.events ++ [.warning (BitVec.ofNat 16 (0xFF00 + n))] } ∧
      busWrite (BitVec.ofNat 16 (0xFF00 + n)) v s =
        .ok () { s with events := s.events ++ [.warning (BitVec.ofNat 16 (0xFF00 + n))] })

/-- An instruction whose first access is refused ends there (R200, R250, R412): after the internal cycles before
that access, exec answers the state with the refusal, nothing else changed. For the loads, the stores, the
accumulator operations on (HL), INC and DEC of (HL), the (HL) forms of the 0xCB page, POP, RET and RETI. -/
def Obligations.RefusedAccessEndsInstruction : Prop :=
  ∀ (s : State) (a : Word), s.locate a = .io .cgbVideo →
    (∀ op i dst addr, (op, i, dst, addr) ∈ loadMemRows → addr s = a → EndsRefused i s (.main op) a) ∧
    (∀ op i addr r, (op, i, addr, r) ∈ storeRows → addr s = a → EndsRefused i s (.main op) a) ∧
    (∀ op i f, (op, i, f, Operand8.memHl) ∈ aluRows → hlAddress s = a → EndsRefused i s (.main op) a) ∧
    (∀ op i f, (op, i, f, Operand8.memHl) ∈ rotateRows → hlAddress s = a → EndsRefused i s (.cb op) a) ∧
    (∀ op i b, (op, i, b, Operand8.memHl) ∈ bitRows ++ resRows ++ setRows → hlAddress s = a →
      EndsRefused i s (.cb op) a) ∧
    (∀ op i, (op, i) ∈ [(0x34, Instr.incMemHl), (0x35, .decMemHl), (0x2A, .ldAMemHlInc),
        (0x3A, .ldAMemHlDec), (0x22, .ldMemHlIncA), (0x32, .ldMemHlDecA)] → hlAddress s = a →
      EndsRefused i s (.main op) a) ∧
    (∀ v, hlAddress s = a → EndsRefused (.ldMemHlD8 v) s (.main 0x36) a) ∧
    EndsRefused (.ldAMemA16 a) s (.main 0xFA) a ∧
    EndsRefused (.ldMemA16A a) s (.main 0xEA) a ∧
    EndsRefused (.ldMemA16Sp a) s (.main 0x08) a ∧
    (s.cpu.sp = a → EndsRefused .ret s (.main 0xC9) a ∧ EndsRefused .reti s (.main 0xD9) a ∧
      ∀ op i r, (op, i, r) ∈ popRows → EndsRefused i s (.main op) a) ∧
    (∀ n : Byte, 0xFF#8 ++ n = a →
      EndsRefused (.ldhAMemA8 n) s (.main 0xF0) a ∧ EndsRefused (.ldhMemA8A n) s (.main 0xE0) a)

/-- IE and IF (R401, R402, R90): all 8 bits of IE are stored and read back; IF stores bits 4-0 and reads with
its upper bits 1. -/
def Obligations.InterruptRegisters : Prop :=
  ∀ (s : State) (v : Byte),
    busWrite 0xFFFF v s = .ok () { s with irq := { s.irq with ie := v } } ∧
    busRead 0xFFFF s = .ok s.irq.ie s ∧
    (∃ u, busWrite 0xFF0F v s = .ok () u ∧ u.irq.req.toNat = v.toNat % 32 ∧
      u = { s with irq := { s.irq with req := u.irq.req } } ∧
      u.peek 0xFF0F = 0xE0 ||| (v &&& 0x1F)) ∧
    busRead 0xFF0F s = .ok (BitVec.ofNat 8 (0xE0 + s.irq.req.toNat)) s

/-- The timer's registers (R444-R447): DIV reads the divider's high byte and a write clears the whole
divider; TIMA and TMA are plain; TAC stores 3 bits and reads with the others 1. -/
def Obligations.TimerRegisters : Prop :=
  ∀ (s : State) (v : Byte),
    busRead 0xFF04 s = .ok (BitVec.ofNat 8 (s.timer.div.toNat / 256)) s ∧
    busWrite 0xFF04 v s = .ok () { s with timer := { s.timer with div := 0 } } ∧
    busRead 0xFF05 s = .ok s.timer.tima s ∧
    busWrite 0xFF05 v s = .ok () { s with timer := { s.timer with tima := v } } ∧
    busRead 0xFF06 s = .ok s.timer.tma s ∧
    busWrite 0xFF06 v s = .ok () { s with timer := { s.timer with tma := v } } ∧
    busRead 0xFF07 s = .ok (BitVec.ofNat 8 (0xF8 + s.timer.tac.toNat)) s ∧
    (∃ u, busWrite 0xFF07 v s = .ok () u ∧ u.timer.tac.toNat = v.toNat % 8 ∧
      u = { s with timer := { s.timer with tac := u.timer.tac } })

/-- The LCD's registers (R490-R497): STAT's bits 6-3 are stored, bit 7 reads 1, bits 2-0 read the coincidence
flag and the mode; a write of LY changes nothing; the others are plain. -/
def Obligations.LcdRegisters : Prop :=
  ∀ (s : State) (v : Byte),
    (busRead 0xFF40 s = .ok s.lcd.lcdc s ∧
      busWrite 0xFF40 v s = .ok () { s with lcd := { s.lcd with lcdc := v } }) ∧
    busRead 0xFF41 s = .ok (BitVec.ofNat 8 (0x80 + 8 * s.lcd.statEnables.toNat +
      4 * s.lcd.coincidence.toNat + s.lcd.mode.number.toNat)) s ∧
    (∃ u, busWrite 0xFF41 v s = .ok () u ∧ u.lcd.statEnables.toNat = v.toNat / 8 % 16 ∧
      u = { s with lcd := { s.lcd with statEnables := u.lcd.statEnables } }) ∧
    (busRead 0xFF42 s = .ok s.lcd.scy s ∧
      busWrite 0xFF42 v s = .ok () { s with lcd := { s.lcd with scy := v } }) ∧
    (busRead 0xFF43 s = .ok s.lcd.scx s ∧
      busWrite 0xFF43 v s = .ok () { s with lcd := { s.lcd with scx := v } }) ∧
    (busRead 0xFF44 s = .ok s.lcd.ly s ∧ busWrite 0xFF44 v s = .ok () s) ∧
    (busRead 0xFF45 s = .ok s.lcd.lyc s ∧
      busWrite 0xFF45 v s = .ok () { s with lcd := { s.lcd with lyc := v } }) ∧
    (busRead 0xFF47 s = .ok s.lcd.bgp s ∧
      busWrite 0xFF47 v s = .ok () { s with lcd := { s.lcd with bgp := v } }) ∧
    (busRead 0xFF48 s = .ok s.lcd.obp0 s ∧
      busWrite 0xFF48 v s = .ok () { s with lcd := { s.lcd with obp0 := v } }) ∧
    (busRead 0xFF49 s = .ok s.lcd.obp1 s ∧
      busWrite 0xFF49 v s = .ok () { s with lcd := { s.lcd with obp1 := v } }) ∧
    (busRead 0xFF4A s = .ok s.lcd.wy s ∧
      busWrite 0xFF4A v s = .ok () { s with lcd := { s.lcd with wy := v } }) ∧
    (busRead 0xFF4B s = .ok s.lcd.wx s ∧
      busWrite 0xFF4B v s = .ok () { s with lcd := { s.lcd with wx := v } })

/-! ## Timer, OAM DMA, HDMA -/

/-- One timer tick (R441-R443): the divider advances by 1 modulo 65536; TIMA moves exactly when the enable bit
is set and the selected divider bit (9, 3, 5 or 7) goes from 1 to 0; from 0xFF it takes TMA and requests
interrupt 2, otherwise it counts up; nothing else changes. -/
def Obligations.TimerTick : Prop :=
  ∀ (s : State) (b : Nat) (fell : Bool), b = [9, 3, 5, 7].getD (s.timer.tac.toNat % 4) 9 →
    fell = (s.timer.tac.getLsbD 2 && s.timer.div.getLsbD b && !(s.timer.div + 1).getLsbD b) →
    timerTick s = { s with
      timer := { s.timer with
        div := s.timer.div + 1
        tima := if fell then (if s.timer.tima = 0xFF then s.timer.tma else s.timer.tima + 1)
          else s.timer.tima }
      irq := { s.irq with
        req := if fell ∧ s.timer.tima = 0xFF then s.irq.req ||| 0b00100 else s.irq.req } }

/-- The timer's rate (R442): enabled, TIMA counts one for every 1024, 16, 64 or 256 ticks of the divider,
reckoned from the divider's own phase, as long as it does not overflow, and requests nothing. -/
def Obligations.TimerRate : Prop :=
  ∀ (s : State) (n period : Nat), s.timer.tac.getLsbD 2 = true →
    period = [1024, 16, 64, 256].getD (s.timer.tac.toNat % 4) 1024 →
    s.timer.tima.toNat + (s.timer.div.toNat % period + n) / period ≤ 255 →
    (timerTick^[n] s).timer.tima.toNat = s.timer.tima.toNat + (s.timer.div.toNat % period + n) / period ∧
    (timerTick^[n] s).irq = s.irq ∧
    (timerTick^[n] s).timer.div = s.timer.div + BitVec.ofNat 16 n

/-- A write of 0xFF46 (R460, R461, R463) starts a transfer from index 0 with a delay of 2, whether or not one
is active, and the register reads back the byte. -/
def Obligations.OamDmaStart : Prop :=
  ∀ (s : State) (v : Byte), ∃ u,
    busWrite 0xFF46 v s = .ok () u ∧
    u = { s with dma := { active := true, delay := 2, page := v, index := 0, reg := v } } ∧
    busRead 0xFF46 u = .ok v u

/-- OAM DMA (R462, R465): from its start, 2 + 160 machine cycles copy the 160 source bytes in order into
OAM and end the transfer; after 161 it is still active. The source bytes are ones no device moves meanwhile. -/
def Obligations.OamDmaCopies : Prop :=
  ∀ (s : State) (page : Byte), Live s →
    (∀ i < 160, (startOamDma page s).StillByte (BitVec.ofNat 16 (page.toNat * 256 + i))) →
    ∃ m t, Res.repeat cycle 161 (startOamDma page s) = .ok () m ∧ m.dma.active = true ∧
      Res.repeat cycle 162 (startOamDma page s) = .ok () t ∧ t.dma.active = false ∧ Live t ∧
      ∀ i < 160, t.peek (BitVec.ofNat 16 (0xFE00 + i)) =
        s.peek (BitVec.ofNat 16 (page.toNat * 256 + i))

/-- A write of HDMA5 in CGB mode (R472-R474, R476): while active, bit 7 clear aborts and changes nothing
else; otherwise the pointers and the length are latched, and bit 7 clear copies the whole length at once,
bit 7 set arms the HBlank transfer and copies nothing. -/
def Obligations.HdmaStart : Prop :=
  ∀ (s : State) (v : Byte) (latched : Hdma), s.params.mode = .cgb →
    latched = { s.hdma with
      src := (s.hdma.hdma1 ++ s.hdma.hdma2) &&& 0xFFF0
      dst := 0x8000 ||| ((s.hdma.hdma3 ++ s.hdma.hdma4) &&& 0x1FF0)
      remaining := (v.toNat % 128 + 1) * 16 } →
    (s.hdma.active = true → v.toNat < 128 →
      busWrite 0xFF55 v s = .ok () { s with hdma := { s.hdma with active := false } }) ∧
    (s.hdma.active = false → v.toNat < 128 →
      busWrite 0xFF55 v s = Res.repeat hdmaCopyStep ((v.toNat % 128 + 1) * 16)
        { s with hdma := { latched with hblank := false } }) ∧
    (128 ≤ v.toNat →
      busWrite 0xFF55 v s = .ok () { s with hdma := { latched with hblank := true, active := true } })

/-- HDMA copies bytes (R478): `n` steps on a live machine, from sources outside video RAM and the I/O block,
leave the `n` source bytes in video RAM from the destination on, wrapping inside it, every other byte of it
as it was, the pointers advanced, the length shorter by `n`, and the transfer inactive when it reaches 0. -/
def Obligations.HdmaCopies : Prop :=
  ∀ (s : State) (n : Nat), Live s → 0 < n → n ≤ s.hdma.remaining → n ≤ 0x2000 →
    (∀ k < n, (∀ j, s.locate (s.hdma.src + BitVec.ofNat 16 k) ≠ .vram j) ∧
      (∀ r, s.locate (s.hdma.src + BitVec.ofNat 16 k) ≠ .io r)) →
    ∃ t, Res.repeat hdmaCopyStep n s = .ok () t ∧ Live t ∧
      (∀ k < n, Cells.get t.mem.vram ((s.hdma.dst.toNat - 0x8000 + k) % 0x2000) =
        s.peek (s.hdma.src + BitVec.ofNat 16 k)) ∧
      (∀ j, (∀ k < n, j ≠ (s.hdma.dst.toNat - 0x8000 + k) % 0x2000) →
        Cells.get t.mem.vram j = Cells.get s.mem.vram j) ∧
      t.hdma.src = s.hdma.src + BitVec.ofNat 16 n ∧
      t.hdma.dst.toNat = 0x8000 + (s.hdma.dst.toNat - 0x8000 + n) % 0x2000 ∧
      t.hdma.remaining = s.hdma.remaining - n ∧
      t.hdma.active = (s.hdma.active && decide (s.hdma.remaining ≠ n)) ∧
      t = { s with mem := { s.mem with vram := t.mem.vram }, hdma := t.hdma }

/-- The registers forwarded to external devices (R87, R100): joypad, serial and sound answer a read and take a
write. In CGB mode (R87): HDMA1-4 read 0xFF and store what is written (R471); HDMA5 reads bit 7 clear while
active and the blocks left less one, modulo 128 (R477); SVBK stores 3 bits and reads with the others 1 (R83). -/
def Obligations.DeviceAndColourRegisters : Prop :=
  ∀ (s : State) (v : Byte),
    (busRead 0xFF00 s = .ok (Device.read .joypad s.dev.joypad 0xFF00) s ∧
      busWrite 0xFF00 v s =
        .ok () { s with dev := { s.dev with joypad := Device.write s.dev.joypad 0xFF00 v } }) ∧
    (∀ a : Word, a = 0xFF01 ∨ a = 0xFF02 → busRead a s = .ok (Device.read .serial s.dev.serial a) s ∧
      busWrite a v s = .ok () { s with dev := { s.dev with serial := Device.write s.dev.serial a v } }) ∧
    (∀ a : Word, 0xFF10 ≤ a.toNat → a.toNat ≤ 0xFF3F →
      busRead a s = .ok (Device.read .sound s.dev.sound a) s ∧
      busWrite a v s = .ok () { s with dev := { s.dev with sound := Device.write s.dev.sound a v } }) ∧
    (s.params.mode = .cgb →
      (∀ n, 0x51 ≤ n → n ≤ 0x54 → busRead (BitVec.ofNat 16 (0xFF00 + n)) s = .ok 0xFF s) ∧
      busWrite 0xFF51 v s = .ok () { s with hdma := { s.hdma with hdma1 := v } } ∧
      busWrite 0xFF52 v s = .ok () { s with hdma := { s.hdma with hdma2 := v } } ∧
      busWrite 0xFF53 v s = .ok () { s with hdma := { s.hdma with hdma3 := v } } ∧
      busWrite 0xFF54 v s = .ok () { s with hdma := { s.hdma with hdma4 := v } } ∧
      (∃ w, busRead 0xFF55 s = .ok w s ∧
        w.toNat = (if s.hdma.active then 0 else 128) + (s.hdma.remaining / 16 + 127) % 128) ∧
      busRead 0xFF70 s = .ok (BitVec.ofNat 8 (0xF8 + s.mem.svbk.toNat)) s ∧
      ∃ u, busWrite 0xFF70 v s = .ok () u ∧ u.mem.svbk.toNat = v.toNat % 8 ∧
        u = { s with mem := { s.mem with svbk := u.mem.svbk } })

/-! ## The PPU -/

/-- Entering a mode (R500, R504): the mode is set; entry into mode 1 requests interrupt 0, clears the window
latch and line and completes a frame; entry into mode 0, 1 or 2 requests interrupt 1 where its enable bit is
set; the coincidence flag becomes LY = LYC, a rise with its enable bit set requesting interrupt 1. Entry into
mode 0 with an HBlank HDMA active, in CGB mode, copies its block of 16 bytes, after the STAT request (R475);
no other entry copies any. Entry into mode 3 resets the pipeline and latches SCX mod 8 (R531). Nothing else
changes. -/
def Obligations.ModeEntry : Prop :=
  ∀ (s : State) (m : PpuMode), Live s → (m ≠ .vblank → s.lcd.ly.toNat < 144) →
    ∃ t, enterMode m s = .ok () t ∧ Live t ∧
      t.lcd = { s.lcd with mode := m, coincidence := s.lcd.ly == s.lcd.lyc } ∧
      t.irq.ie = s.irq.ie ∧
      (∀ k < 5, t.irq.req.getLsbD k = (s.irq.req.getLsbD k ||
        (decide (k = 0) && decide (m = .vblank)) ||
        (decide (k = 1) && ((decide (m = .hblank) && s.lcd.statEnables.getLsbD 0) ||
          (decide (m = .vblank) && s.lcd.statEnables.getLsbD 1) ||
          (decide (m = .oamScan) && s.lcd.statEnables.getLsbD 2) ||
          (s.lcd.statEnables.getLsbD 3 && s.lcd.ly == s.lcd.lyc && !s.lcd.coincidence))))) ∧
      (m = .hblank → s.params.mode = .cgb → s.hdma.active = true → s.hdma.hblank = true →
        ∃ u, Res.repeat hdmaCopyStep 16 { s with
            lcd := { s.lcd with mode := .hblank }
            irq := { s.irq with
              req := if s.lcd.statEnables.getLsbD 0 then s.irq.req ||| 0b00010 else s.irq.req } } =
          .ok () u ∧ t.mem = u.mem ∧ t.hdma = u.hdma ∧ t.events = u.events) ∧
      (¬(m = .hblank ∧ s.params.mode = .cgb ∧ s.hdma.active = true ∧ s.hdma.hblank = true) →
        t.mem = s.mem ∧ t.hdma = s.hdma ∧
          t.events = if m = .vblank then s.events ++ [.frameComplete] else s.events) ∧
      (m = .transfer → t.pipe.scxFine.toNat = s.lcd.scx.toNat % 8 ∧
        t.pipe = { s.pipe with
          fetchState := .tile, fetchX := 0, fifoX := 0, lineX := 0, pushedX := 0
          scxFine := t.pipe.scxFine, fetchWindow := false, fetched := [], fifo := [] }) ∧
      (m ≠ .transfer → t.pipe = s.pipe) ∧
      t.ppu = { s.ppu with
        windowLatch := if m = .vblank then false else s.ppu.windowLatch
        windowLine := if m = .vblank then 0 else s.ppu.windowLine
        windowDrawn := if m = .transfer then false else s.ppu.windowDrawn } ∧
      framesDone t = framesDone s + (if m = .vblank then 1 else 0) ∧
      t = { s with lcd := t.lcd, irq := t.irq, mem := t.mem, hdma := t.hdma, events := t.events,
                   pipe := t.pipe, ppu := t.ppu }

/-- A line lasts 456 ticks (R503, R505, R506): from the start of a visible line the next line starts, in
mode 2, or mode 1 at line 144; from the start of a VBlank line the next VBlank line, or line 0 in mode 2. -/
def Obligations.LineTiming : Prop :=
  ∀ s : State, Live s → PpuRuns s → s.ppu.lineTicks = 0 →
    (s.lcd.mode = .oamScan → ∃ t, Res.repeat ppuTick 456 s = .ok () t ∧ Live t ∧ t.ppu.lineTicks = 0 ∧
      t.lcd.ly = s.lcd.ly + 1 ∧ t.lcd.mode = if s.lcd.ly = 143 then .vblank else .oamScan) ∧
    (s.lcd.mode = .vblank → ∃ t, Res.repeat ppuTick 456 s = .ok () t ∧ Live t ∧ t.ppu.lineTicks = 0 ∧
      t.lcd.ly = (if s.lcd.ly = 153 then 0 else s.lcd.ly + 1) ∧
      t.lcd.mode = if s.lcd.ly = 153 then .oamScan else .vblank)

/-- The modes of a visible line (R546, R501, R502): 80 ticks of mode 2, then mode 3 up to tick 297, or
299 + n with n = SCX mod 8 not 0, then mode 0. The length of mode 3 depends on nothing else. -/
def Obligations.TransferLength : Prop :=
  ∀ (s : State) (k : Nat), Live s → PpuRuns s → s.ppu.lineTicks = 0 → s.lcd.mode = .oamScan → k < 456 →
    ∃ t, Res.repeat ppuTick k s = .ok () t ∧ t.ppu.lineTicks = k ∧ t.lcd.ly = s.lcd.ly ∧
      t.lcd.mode = (if k < 80 then .oamScan
        else if k < transferEnd (s.lcd.scx.toNat % 8) then .transfer else .hblank)

/-- A frame lasts 154 lines of 456 ticks, 70,224 ticks (R506, R511): from the start of line 0 the PPU is at
the start of line 0 again, and exactly one frame was completed. -/
def Obligations.FrameTiming : Prop :=
  ∀ s : State, Live s → PpuRuns s → s.ppu.lineTicks = 0 → s.lcd.mode = .oamScan → s.lcd.ly = 0 →
    ∃ t, Res.repeat ppuTick (154 * 456) s = .ok () t ∧ Live t ∧ t.ppu.lineTicks = 0 ∧
      t.lcd.mode = .oamScan ∧ t.lcd.ly = 0 ∧ framesDone t = framesDone s + 1

/-- The line's sprites (R507, R508): OAM entries on the line, at most 10, the first 10 in OAM order; in DMG
mode by ascending X, equal X by OAM index; in CGB mode by OAM index. -/
def Obligations.SpriteSelection : Prop :=
  ∀ (s : State) (height : Nat), height = (if s.lcd.lcdc.getLsbD 2 then 16 else 8) →
    let onLine := fun i => (oamEntry s i).y.toNat ≤ s.lcd.ly.toNat + 16 ∧
      s.lcd.ly.toNat + 16 < (oamEntry s i).y.toNat + height
    (selectSprites s).length ≤ 10 ∧
    (∀ sp ∈ selectSprites s, sp.index < 40 ∧ sp = oamEntry s sp.index ∧ onLine sp.index) ∧
    (∀ i < 40, onLine i → oamEntry s i ∉ selectSprites s →
      (selectSprites s).length = 10 ∧ ∀ sp ∈ selectSprites s, sp.index < i) ∧
    (s.params.mode = .dmg → (selectSprites s).Pairwise fun p q =>
      p.x.toNat < q.x.toNat ∨ (p.x = q.x ∧ p.index < q.index)) ∧
    (s.params.mode = .cgb → (selectSprites s).Pairwise fun p q => p.index < q.index)

/-- A pixel (R540, R541): the first fetched sprite with a colour other than 0 over it decides it, whatever
sprites come before and after: its shade through its palette, unless it is behind a background colour other
than 0. With no such sprite it is the background's shade through BGP, or shade 0 with the background off. -/
def Obligations.PixelResolution : Prop :=
  ∀ (s : State) (p i bg : Nat) (under : Pixel) (layers : List (Sprite × Byte × Byte)), i < 8 →
    bg = (if s.lcd.lcdc.getLsbD 0 then
      (s.pipe.tileLo.getLsbD (7 - i)).toNat + 2 * (s.pipe.tileHi.getLsbD (7 - i)).toNat else 0) →
    under = (if s.lcd.lcdc.getLsbD 0 then
      shadePixel s.params.shades (BitVec.ofNat 2 (s.lcd.bgp.toNat / 4 ^ bg)) else s.params.shades.shade0) →
    layers = s.pipe.fetched.zip (s.pipe.spriteLo.zip s.pipe.spriteHi) →
    ((∀ x ∈ layers, spriteColour s p x = 0) → resolvePixel s p i = under) ∧
    ∀ (front back : List (Sprite × Byte × Byte)) (x : Sprite × Byte × Byte),
      layers = front ++ x :: back → (∀ y ∈ front, spriteColour s p y = 0) → spriteColour s p x ≠ 0 →
      resolvePixel s p i = (if x.1.attr.getLsbD 7 = false ∨ bg = 0 then
        shadePixel s.params.shades (BitVec.ofNat 2
          ((if x.1.attr.getLsbD 4 then s.lcd.obp1 else s.lcd.obp0).toNat / 4 ^ spriteColour s p x))
        else under)

/-- The pop step (R543): with more than 8 pixels in the FIFO one is popped, and otherwise nothing happens. The
first SCX mod 8 pixels popped on a line are discarded; each later one is written to the framebuffer at the
line LY, in DMG mode as popped, in CGB mode as a free value (R516, log 6), and nothing else of the framebuffer
and of the machine changes. -/
def Obligations.PopDrawsPixel : Prop :=
  ∀ s : State,
    (s.pipe.fifo.length ≤ 8 → popStep s = .ok () s) ∧
    ∀ px rest, s.pipe.fifo = px :: rest → 8 < s.pipe.fifo.length →
      (s.pipe.lineX < s.pipe.scxFine.toNat → popStep s =
        .ok () { s with pipe := { s.pipe with fifo := rest, lineX := s.pipe.lineX + 1 } }) ∧
      (s.pipe.scxFine.toNat ≤ s.pipe.lineX → s.lcd.ly.toNat < 144 → s.pipe.pushedX < 160 →
        ∃ t, popStep s = .ok () t ∧
          Cells.get t.mem.framebuffer (s.lcd.ly.toNat * 160 + s.pipe.pushedX) =
            (if s.params.mode = .dmg then px else Config.cgbPixel s.draws) ∧
          (∀ j, j ≠ s.lcd.ly.toNat * 160 + s.pipe.pushedX →
            Cells.get t.mem.framebuffer j = Cells.get s.mem.framebuffer j) ∧
          t.draws = (if s.params.mode = .dmg then s.draws else s.draws + 1) ∧
          t = { s with
            mem := { s.mem with framebuffer := t.mem.framebuffer }
            draws := t.draws
            pipe := { s.pipe with
              fifo := rest, lineX := s.pipe.lineX + 1, pushedX := s.pipe.pushedX + 1 } })

/-! ## 8-bit loads -/

/-- LD r,r' and LD r,d8 (R201, R202): a register takes another's value or the immediate; the instruction's
internal cycles, by default none, pass; nothing else changes. -/
def Obligations.LoadRegisterForms : Prop :=
  (∀ op i dst r, (op, i, dst, r) ∈ loadRegRows → Reads [op] i ∧
    ∀ s, s.CanPass (gap s (.main op) 0) →
      Completes i s (gap s (.main op) 0) (s.setReg8 dst (s.reg8 r))) ∧
  (∀ op i dst, (op, i, dst) ∈ loadImmRows → ∀ n : Byte, Reads [op, n] (i n) ∧
    ∀ s, s.CanPass (gap s (.main op) 0) → Completes (i n) s (gap s (.main op) 0) (s.setReg8 dst n))

/-- The loads from memory (R203, R206, R208, R210, R212, R214, R215): the register takes the byte read, and
the machine cycle of the read passes, with the instruction's internal cycles before and after it, by default
none; HL moves by one in the post-increment and -decrement forms. The read is one that is not refused (R87). -/
def Obligations.LoadFromMemory : Prop :=
  (∀ op i dst addr, (op, i, dst, addr) ∈ loadMemRows →
    Reads [op] i ∧ ∀ s, Live s → s.Readable (addr s) →
      CompletesVia i s (gap s (.main op) 0) (1 + gap s (.main op) 1)
        fun m => m.setReg8 dst (m.peek (addr s))) ∧
  (∀ n : Byte, Reads [0xF0, n] (.ldhAMemA8 n) ∧
    ∀ s, Live s → s.Readable (0xFF#8 ++ n) →
      CompletesVia (.ldhAMemA8 n) s (gap s (.main 0xF0) 0) (1 + gap s (.main 0xF0) 1)
        fun m => m.setReg8 .a (m.peek (0xFF#8 ++ n))) ∧
  (∀ lo hi : Byte, Reads [0xFA, lo, hi] (.ldAMemA16 (hi ++ lo)) ∧
    ∀ s, Live s → s.Readable (hi ++ lo) →
      CompletesVia (.ldAMemA16 (hi ++ lo)) s (gap s (.main 0xFA) 0) (1 + gap s (.main 0xFA) 1)
        fun m => m.setReg8 .a (m.peek (hi ++ lo))) ∧
  (Reads [0x2A] .ldAMemHlInc ∧ ∀ s, Live s → s.Readable (hlAddress s) →
    CompletesVia .ldAMemHlInc s (gap s (.main 0x2A) 0) (1 + gap s (.main 0x2A) 1)
      fun m => (m.setReg8 .a (m.peek (hlAddress s))).setReg16 .hl (hlAddress s + 1)) ∧
  (Reads [0x3A] .ldAMemHlDec ∧ ∀ s, Live s → s.Readable (hlAddress s) →
    CompletesVia .ldAMemHlDec s (gap s (.main 0x3A) 0) (1 + gap s (.main 0x3A) 1)
      fun m => (m.setReg8 .a (m.peek (hlAddress s))).setReg16 .hl (hlAddress s - 1))

/-- The stores (R204, R205, R207, R209, R211, R213, R216, R217): the byte is stored at the address the form
computes, and the machine cycle of the store passes, with the instruction's internal cycles before and after
it, by default none; every register is as before but HL in the post-increment and -decrement forms; every byte
the store leaves alone reads as before. The store is one that is not refused and sets no unit to be refused
(R87). -/
def Obligations.StoreToMemory : Prop :=
  (∀ op i addr r, (op, i, addr, r) ∈ storeRows →
    Reads [op] i ∧ ∀ s, Live s → s.Storable (addr s) (s.reg8 r) →
      ∃ t, exec i s = .next t ∧ StoredVia (.main op) (addr s) (s.reg8 r) s t) ∧
  (∀ n : Byte, Reads [0x36, n] (.ldMemHlD8 n) ∧
    ∀ s, Live s → s.Storable (hlAddress s) n →
      ∃ t, exec (.ldMemHlD8 n) s = .next t ∧ StoredVia (.main 0x36) (hlAddress s) n s t) ∧
  (∀ n : Byte, Reads [0xE0, n] (.ldhMemA8A n) ∧
    ∀ s, Live s → s.Storable (0xFF#8 ++ n) s.cpu.a →
      ∃ t, exec (.ldhMemA8A n) s = .next t ∧ StoredVia (.main 0xE0) (0xFF#8 ++ n) s.cpu.a s t) ∧
  (∀ lo hi : Byte, Reads [0xEA, lo, hi] (.ldMemA16A (hi ++ lo)) ∧
    ∀ s, Live s → s.Storable (hi ++ lo) s.cpu.a →
      ∃ t, exec (.ldMemA16A (hi ++ lo)) s = .next t ∧
      StoredVia (.main 0xEA) (hi ++ lo) s.cpu.a s t) ∧
  (Reads [0x22] .ldMemHlIncA ∧ ∀ s, Live s → s.Storable (hlAddress s) s.cpu.a →
    ∃ t, StoredVia (.main 0x22) (hlAddress s) s.cpu.a s t ∧
    exec .ldMemHlIncA s = .next (t.setReg16 .hl (hlAddress s + 1))) ∧
  (Reads [0x32] .ldMemHlDecA ∧ ∀ s, Live s → s.Storable (hlAddress s) s.cpu.a →
    ∃ t, StoredVia (.main 0x32) (hlAddress s) s.cpu.a s t ∧
    exec .ldMemHlDecA s = .next (t.setReg16 .hl (hlAddress s - 1)))

/-! ## 16-bit loads and the stack -/

/-- LD rr,d16, LD SP,HL and LD HL,SP+e8 (R230, R232, R233): the pair takes the value, the low immediate byte
first; LD HL,SP+e8 adds the signed immediate and takes H and C from the low bytes, Z and N clear; the
instruction's internal cycles pass, by default one for the last two and none for the first. -/
def Obligations.LoadWordForms : Prop :=
  (∀ op i dst, (op, i, dst) ∈ loadWordRows → ∀ lo hi : Byte, Reads [op, lo, hi] (i (hi ++ lo)) ∧
    ∀ s, s.CanPass (gap s (.main op) 0) →
      Completes (i (hi ++ lo)) s (gap s (.main op) 0) (s.setReg16 dst (hi ++ lo))) ∧
  (Reads [0xF9] .ldSpHl [1] ∧ ∀ s, s.CanPass (gap s (.main 0xF9) 0) →
    Completes .ldSpHl s (gap s (.main 0xF9) 0) { s with cpu := { s.cpu with sp := hlAddress s } }) ∧
  (∀ e : Byte, Reads [0xF8, e] (.ldHlSpE8 e) [1] ∧ ∀ s, s.CanPass (gap s (.main 0xF8) 0) →
    Completes (.ldHlSpE8 e) s (gap s (.main 0xF8) 0)
      (withF (s.setReg16 .hl (addSigned s.cpu.sp e)) (spFlags s.cpu.sp e)))

/-- LD (a16),SP (R231): the low byte of SP is stored at the address, then the high byte at the next one
modulo 65536, one machine cycle each, with the instruction's internal cycles around them, by default none; no
register changes. The stores are ones that are not refused (R87). -/
def Obligations.StoreStackPointer : Prop :=
  ∀ lo hi : Byte, Reads [0x08, lo, hi] (.ldMemA16Sp (hi ++ lo)) ∧
    ∀ s, Live s → s.Storable (hi ++ lo) (BitVec.ofNat 8 s.cpu.sp.toNat) →
      s.Storable ((hi ++ lo) + 1) (BitVec.ofNat 8 (s.cpu.sp.toNat / 256)) →
      ∃ m t, exec (.ldMemA16Sp (hi ++ lo)) s = .next t ∧ Live t ∧
      StoredVia (.main 0x08) (hi ++ lo) (BitVec.ofNat 8 s.cpu.sp.toNat) s m ∧
      Stored (1 + gap s (.main 0x08) 2) ((hi ++ lo) + 1) (BitVec.ofNat 8 (s.cpu.sp.toNat / 256)) m t

/-- PUSH (R234): the internal cycles, by default one, then the pair's high byte stored at SP - 1 and its low
byte at SP - 2; SP ends 2 lower; AF is pushed with the low nibble of F clear. The stores are ones that are not
refused (R87). -/
def Obligations.PushPair : Prop :=
  ∀ op i r, (op, i, r) ∈ pushRows → Reads [op] i [1, 0, 0] ∧
    ∀ (s : State) (w : Word), w = (match r with
        | .bc => s.cpu.b ++ s.cpu.c
        | .de => s.cpu.d ++ s.cpu.e
        | .hl => s.cpu.h ++ s.cpu.l
        | .af => s.cpu.a ++ (s.cpu.f &&& 0xF0)) →
      Live s → s.Pushable w → ∃ m t, exec i s = .next t ∧ Live t ∧ Elapsed (gap s (.main op) 0) s m ∧
        t.cpu = { s.cpu with sp := s.cpu.sp - 2 } ∧
        Pushed (gap s (.main op) 1) (gap s (.main op) 2) w m t

/-- POP (R235, R236): the low byte read at SP, the high byte at SP + 1, SP 2 higher, the pair set; POP AF
drops the low nibble of F; the instruction's internal cycles, by default none, stand around the reads. The
reads are ones that are not refused (R87). -/
def Obligations.PopPair : Prop :=
  ∀ op i r, (op, i, r) ∈ popRows → Reads [op] i ∧
    ∀ s, Live s → s.Poppable → ∃ (hi lo : Byte) (m u : State), Elapsed (gap s (.main op) 0) s m ∧
      Popped (gap s (.main op) 1) (gap s (.main op) 2) (hi ++ lo) m u ∧ Live u ∧
      exec i s = .next { u with cpu := match r with
        | .bc => { u.cpu with b := hi, c := lo }
        | .de => { u.cpu with d := hi, e := lo }
        | .hl => { u.cpu with h := hi, l := lo }
        | .af => { u.cpu with a := hi, f := lo &&& 0xF0 } }

/-! ## Arithmetic -/

/-- ADD, ADC, SUB, SBC and CP (R251-R254, R258), in every operand form: A and F as the rules' formulas give
them, A kept by CP; one machine cycle for (HL), whose read is not refused (R87), and the instruction's internal
cycles, by default none; nothing else changes. -/
def Obligations.AddAndSubtract : Prop :=
  (∀ op i f o, (op, i, f, o) ∈ aluRows → f ∈ [AluOp.add, .adc, .sub, .sbc, .cp] → Reads [op] i ∧
    ∀ s, OperandReady s (.main op) o →
      CompletesVia i s (gap s (.main op) 0) (accessCycles s (.main op) o) fun m =>
        withAF m (aluSpec f s.cpu.a (operandValue m o) (cFlag s)).1
          (aluSpec f s.cpu.a (operandValue m o) (cFlag s)).2) ∧
  (∀ op i f, (op, i, f) ∈ aluImmRows → f ∈ [AluOp.add, .adc, .sub, .sbc, .cp] → ∀ v : Byte,
    Reads [op, v] (i v) ∧ ∀ s, s.CanPass (gap s (.main op) 0) →
      Completes (i v) s (gap s (.main op) 0)
        (withAF s (aluSpec f s.cpu.a v (cFlag s)).1 (aluSpec f s.cpu.a v (cFlag s)).2))

/-- AND, XOR and OR (R255-R257), in every operand form: the bitwise result in A; Z from it, N and C clear,
H set by AND only; one machine cycle for (HL), whose read is not refused (R87), and the instruction's internal
cycles, by default none; nothing else changes. -/
def Obligations.BitwiseLogic : Prop :=
  (∀ op i f o, (op, i, f, o) ∈ aluRows → f ∈ [AluOp.and, .xor, .or] → Reads [op] i ∧
    ∀ s, OperandReady s (.main op) o →
      CompletesVia i s (gap s (.main op) 0) (accessCycles s (.main op) o) fun m =>
        withAF m (aluSpec f s.cpu.a (operandValue m o) (cFlag s)).1
          (aluSpec f s.cpu.a (operandValue m o) (cFlag s)).2) ∧
  (∀ op i f, (op, i, f) ∈ aluImmRows → f ∈ [AluOp.and, .xor, .or] → ∀ v : Byte,
    Reads [op, v] (i v) ∧ ∀ s, s.CanPass (gap s (.main op) 0) →
      Completes (i v) s (gap s (.main op) 0)
        (withAF s (aluSpec f s.cpu.a v (cFlag s)).1 (aluSpec f s.cpu.a v (cFlag s)).2))

/-- INC r and DEC r (R259, R261): the register moves by one modulo 256; Z from the result, N clear or set, H
from the low nibble, C kept; the instruction's internal cycles, by default none, pass; nothing else changes. -/
def Obligations.IncDecRegister : Prop :=
  (∀ op i r, (op, i, r) ∈ incRows → Reads [op] i ∧ ∀ s, s.CanPass (gap s (.main op) 0) →
    Completes i s (gap s (.main op) 0) (withF (s.setReg8 r (s.reg8 r + 1))
      (flagByte (s.reg8 r == 0xFF) false ((s.reg8 r).toNat % 16 == 15) (cFlag s)))) ∧
  (∀ op i r, (op, i, r) ∈ decRows → Reads [op] i ∧ ∀ s, s.CanPass (gap s (.main op) 0) →
    Completes i s (gap s (.main op) 0) (withF (s.setReg8 r (s.reg8 r - 1))
      (flagByte (s.reg8 r == 1) true ((s.reg8 r).toNat % 16 == 0) (cFlag s))))

/-- INC (HL) and DEC (HL) (R260, R262): a read and its machine cycle, then the store of the byte moved by one
and its machine cycle, with the instruction's internal cycles around them, by default none; F as for a
register. The accesses are ones that are not refused (R87). -/
def Obligations.IncDecMemory : Prop :=
  (Reads [0x34] .incMemHl ∧ ∀ s, Live s → s.Storable (hlAddress s) (s.peek (hlAddress s) + 1) →
    ∃ m x w u f, exec .incMemHl s = .next u ∧ Live u ∧ Elapsed (gap s (.main 0x34) 0) s m ∧
      ReadAt (gap s (.main 0x34) 1) (hlAddress s) m x ∧
      Stored (1 + gap s (.main 0x34) 2) (hlAddress s) (m.peek (hlAddress s) + 1) (withF x f) w ∧
      u = withF w (flagByte (m.peek (hlAddress s) == 0xFF) false
        ((m.peek (hlAddress s)).toNat % 16 == 15) (cFlag s))) ∧
  (Reads [0x35] .decMemHl ∧ ∀ s, Live s → s.Storable (hlAddress s) (s.peek (hlAddress s) - 1) →
    ∃ m x w u f, exec .decMemHl s = .next u ∧ Live u ∧ Elapsed (gap s (.main 0x35) 0) s m ∧
      ReadAt (gap s (.main 0x35) 1) (hlAddress s) m x ∧
      Stored (1 + gap s (.main 0x35) 2) (hlAddress s) (m.peek (hlAddress s) - 1) (withF x f) w ∧
      u = withF w (flagByte (m.peek (hlAddress s) == 1) true
        ((m.peek (hlAddress s)).toNat % 16 == 0) (cFlag s)))

/-- DAA, CPL, SCF, CCF (R263-R266). DAA's correction is 6 in the low digit and 6 in the high digit, decided
from A before the correction, added or, after a subtraction, subtracted. The instruction's internal cycles, by
default none, pass; nothing else changes. -/
def Obligations.AccumulatorFlags : Prop :=
  (Reads [0x27] .daa ∧ ∀ (s : State) (low high : Bool) (adj : Nat) (r : Byte),
    s.CanPass (gap s (.main 0x27) 0) →
    low = (hFlag s || (!nFlag s && decide (s.cpu.a.toNat % 16 > 9))) →
    high = (cFlag s || (!nFlag s && decide (s.cpu.a.toNat > 0x99))) →
    adj = 0x06 * low.toNat + 0x60 * high.toNat →
    r = BitVec.ofNat 8 (if nFlag s then s.cpu.a.toNat + 256 - adj else s.cpu.a.toNat + adj) →
    Completes .daa s (gap s (.main 0x27) 0) (withAF s r (flagByte (r == 0) (nFlag s) false high))) ∧
  (Reads [0x2F] .cpl ∧ ∀ s, s.CanPass (gap s (.main 0x2F) 0) → Completes .cpl s (gap s (.main 0x2F) 0)
    (withAF s (BitVec.ofNat 8 (255 - s.cpu.a.toNat)) (flagByte (zFlag s) true true (cFlag s)))) ∧
  (Reads [0x37] .scf ∧ ∀ s, s.CanPass (gap s (.main 0x37) 0) → Completes .scf s (gap s (.main 0x37) 0)
    (withF s (flagByte (zFlag s) false false true))) ∧
  (Reads [0x3F] .ccf ∧ ∀ s, s.CanPass (gap s (.main 0x3F) 0) → Completes .ccf s (gap s (.main 0x3F) 0)
    (withF s (flagByte (zFlag s) false false (!cFlag s))))

/-- The 16-bit arithmetic (R280-R283): INC rr and DEC rr write no flag; ADD HL,rr keeps Z, clears N, H from
bit 11 and C from bit 15; ADD SP,e8 clears Z and N, H and C from the low bytes; the instruction's internal
cycles pass, by default one, two for ADD SP,e8. -/
def Obligations.WordArithmetic : Prop :=
  (∀ op i r, (op, i, r) ∈ incWordRows → Reads [op] i [1] ∧ ∀ s, s.CanPass (gap s (.main op) 0) →
    Completes i s (gap s (.main op) 0) (s.setReg16 r (s.reg16 r + 1))) ∧
  (∀ op i r, (op, i, r) ∈ decWordRows → Reads [op] i [1] ∧ ∀ s, s.CanPass (gap s (.main op) 0) →
    Completes i s (gap s (.main op) 0) (s.setReg16 r (s.reg16 r - 1))) ∧
  (∀ op i r, (op, i, r) ∈ addHlRows → Reads [op] i [1] ∧ ∀ s, s.CanPass (gap s (.main op) 0) →
    Completes i s (gap s (.main op) 0) (withF (s.setReg16 .hl (hlAddress s + s.reg16 r))
      (flagByte (zFlag s) false
        ((hlAddress s).toNat % 4096 + (s.reg16 r).toNat % 4096 > 0x0FFF)
        ((hlAddress s).toNat + (s.reg16 r).toNat > 0xFFFF)))) ∧
  (∀ e : Byte, Reads [0xE8, e] (.addSpE8 e) [2] ∧ ∀ s, s.CanPass (gap s (.main 0xE8) 0) →
    Completes (.addSpE8 e) s (gap s (.main 0xE8) 0)
      (withF (s.setReg16 .sp (addSigned s.cpu.sp e)) (spFlags s.cpu.sp e)))

/-! ## Rotates, shifts, bits -/

/-- RLCA, RRCA, RLA, RRA (R290-R293): A rotated, C the bit that left, Z, N and H clear; the instruction's
internal cycles, by default none, pass; nothing else changes. -/
def Obligations.RotateAccumulator : Prop :=
  ∀ op i f, (op, i, f) ∈ rotateARows → Reads [op] i ∧ ∀ s, s.CanPass (gap s (.main op) 0) →
    Completes i s (gap s (.main op) 0) (withAF s (rotSpec f s.cpu.a (cFlag s)).1
      (flagByte false false false (rotSpec f s.cpu.a (cFlag s)).2))

/-- The rotates and shifts of the 0xCB page (R295-R302), on a register or (HL): the result written back, Z
from it, N and H clear, C the bit that left; the instruction's internal cycles, by default none, stand around
the accesses; nothing else changes. -/
def Obligations.RotateOperand : Prop :=
  ∀ op i f o, (op, i, f, o) ∈ rotateRows → Reads [0xCB, op] i ∧
    ∀ s, ResultReady s (.cb op) o (rotSpec f (operandValue s o) (cFlag s)).1 →
      ∃ m u, Elapsed (gap s (.cb op) 0) s m ∧
        ResultWritten (gap s (.cb op) 1) (gap s (.cb op) 2) o
          (rotSpec f (operandValue m o) (cFlag s)).1 m u ∧ (Live s → Live u) ∧
        exec i s = .next (withF u
          (flagByte ((rotSpec f (operandValue m o) (cFlag s)).1 == 0) false false
            (rotSpec f (operandValue m o) (cFlag s)).2))

/-- BIT (R303): Z is set where the bit is 0, N clear, H set, C kept; nothing is written back; one machine cycle
for (HL), and the instruction's internal cycles, by default none. -/
def Obligations.TestBit : Prop :=
  ∀ op i b o, (op, i, b, o) ∈ bitRows → Reads [0xCB, op] i ∧
    ∀ s, OperandReady s (.cb op) o →
      CompletesVia i s (gap s (.cb op) 0) (accessCycles s (.cb op) o) fun m =>
        withF m (flagByte (bitOf (operandValue m o) b == 0) false true (cFlag s))

/-- RES and SET (R304, R305): the bit cleared or set and the byte written back, whatever it was; the
instruction's internal cycles, by default none, stand around the accesses; no flag and nothing else changes. -/
def Obligations.ResetAndSetBit : Prop :=
  (∀ op i b o, (op, i, b, o) ∈ resRows → Reads [0xCB, op] i ∧
    ∀ s, ResultReady s (.cb op) o (resSpec b (operandValue s o)) →
      ∃ m u, Elapsed (gap s (.cb op) 0) s m ∧
        ResultWritten (gap s (.cb op) 1) (gap s (.cb op) 2) o (resSpec b (operandValue m o)) m u ∧
        (Live s → Live u) ∧ exec i s = .next u) ∧
  (∀ op i b o, (op, i, b, o) ∈ setRows → Reads [0xCB, op] i ∧
    ∀ s, ResultReady s (.cb op) o (setSpec b (operandValue s o)) →
      ∃ m u, Elapsed (gap s (.cb op) 0) s m ∧
        ResultWritten (gap s (.cb op) 1) (gap s (.cb op) 2) o (setSpec b (operandValue m o)) m u ∧
        (Live s → Live u) ∧ exec i s = .next u)

/-! ## Control transfer -/

/-- The jumps (R321-R325): PC takes the target after the internal cycles, by default one, for JP HL none; a
condition that does not hold changes nothing and costs the not-taken internal cycles, by default none; a
relative target counts from the byte after the instruction. -/
def Obligations.JumpsReachTarget : Prop :=
  (∀ lo hi : Byte, Reads [0xC3, lo, hi] (.jpA16 (hi ++ lo)) [1] ∧ ∀ s, s.CanPass (gap s (.main 0xC3) 0) →
    Completes (.jpA16 (hi ++ lo)) s (gap s (.main 0xC3) 0) (s.setPc (hi ++ lo))) ∧
  (∀ op i cc, (op, i, cc) ∈ jumpIfRows → ∀ lo hi : Byte, Reads [op, lo, hi] (i (hi ++ lo)) [1] ∧ ∀ s,
    (condHolds s cc → s.CanPass (gap s (.main op) 0) →
      Completes (i (hi ++ lo)) s (gap s (.main op) 0) (s.setPc (hi ++ lo))) ∧
    (¬condHolds s cc → s.CanPass (gapNotTaken s (.main op)) →
      Completes (i (hi ++ lo)) s (gapNotTaken s (.main op)) s)) ∧
  (Reads [0xE9] .jpHl ∧ ∀ s, s.CanPass (gap s (.main 0xE9) 0) →
    Completes .jpHl s (gap s (.main 0xE9) 0) (s.setPc (hlAddress s))) ∧
  (∀ e : Byte, Reads [0x18, e] (.jrE8 e) [1] ∧ ∀ s, s.CanPass (gap s (.main 0x18) 0) →
    Completes (.jrE8 e) s (gap s (.main 0x18) 0) (s.setPc (addSigned s.cpu.pc e))) ∧
  (∀ op i cc, (op, i, cc) ∈ jumpRelIfRows → ∀ e : Byte, Reads [op, e] (i e) [1] ∧ ∀ s,
    (condHolds s cc → s.CanPass (gap s (.main op) 0) →
      Completes (i e) s (gap s (.main op) 0) (s.setPc (addSigned s.cpu.pc e))) ∧
    (¬condHolds s cc → s.CanPass (gapNotTaken s (.main op)) →
      Completes (i e) s (gapNotTaken s (.main op)) s))

/-- The calls (R326, R327, R331): the internal cycles, by default one, PC pushed, then PC takes the target; a
CALL whose condition does not hold writes nothing, changes nothing and costs the not-taken internal cycles, by
default none. The stores are ones that are not refused (R87). -/
def Obligations.CallsPushReturn : Prop :=
  (∀ lo hi : Byte, Reads [0xCD, lo, hi] (.callA16 (hi ++ lo)) [1, 0, 0] ∧ ∀ s, Live s → s.Pushable s.cpu.pc →
    ∃ m u, Elapsed (gap s (.main 0xCD) 0) s m ∧
      Pushed (gap s (.main 0xCD) 1) (gap s (.main 0xCD) 2) s.cpu.pc m u ∧ Live u ∧
      exec (.callA16 (hi ++ lo)) s = .next (u.setPc (hi ++ lo))) ∧
  (∀ op i cc, (op, i, cc) ∈ callIfRows → ∀ lo hi : Byte,
    Reads [op, lo, hi] (i (hi ++ lo)) [1, 0, 0] ∧ ∀ s,
    (condHolds s cc → Live s → s.Pushable s.cpu.pc → ∃ m u, Elapsed (gap s (.main op) 0) s m ∧
      Pushed (gap s (.main op) 1) (gap s (.main op) 2) s.cpu.pc m u ∧ Live u ∧
      exec (i (hi ++ lo)) s = .next (u.setPc (hi ++ lo))) ∧
    (¬condHolds s cc → s.CanPass (gapNotTaken s (.main op)) →
      Completes (i (hi ++ lo)) s (gapNotTaken s (.main op)) s)) ∧
  (∀ op i v, (op, i, v) ∈ rstRows → Reads [op] i [1, 0, 0] ∧ ∀ s, Live s → s.Pushable s.cpu.pc →
    ∃ m u, Elapsed (gap s (.main op) 0) s m ∧
      Pushed (gap s (.main op) 1) (gap s (.main op) 2) s.cpu.pc m u ∧ Live u ∧
      exec i s = .next (u.setPc v))

/-- The returns (R328-R330): PC popped, then the internal cycles, by default one; RET cc pays one before the
reads too, and where the condition does not hold it pays the not-taken internal cycles, by default one, and
changes nothing; RETI sets IME. The reads are ones that are not refused (R87). -/
def Obligations.ReturnsPopPc : Prop :=
  (Reads [0xC9] .ret [0, 0, 1] ∧ ∀ s, Live s → s.Poppable → ∃ m w u, Elapsed (gap s (.main 0xC9) 0) s m ∧
    Popped (gap s (.main 0xC9) 1) (gap s (.main 0xC9) 2) w m u ∧ Live u ∧
    exec .ret s = .next (u.setPc w)) ∧
  (∀ op i cc, (op, i, cc) ∈ retIfRows → Reads [op] i [1, 0, 1] 1 ∧ ∀ s,
    (condHolds s cc → Live s → s.Poppable → ∃ m w u, Elapsed (gap s (.main op) 0) s m ∧
      Popped (gap s (.main op) 1) (gap s (.main op) 2) w m u ∧ Live u ∧
      exec i s = .next (u.setPc w)) ∧
    (¬condHolds s cc → s.CanPass (gapNotTaken s (.main op)) →
      Completes i s (gapNotTaken s (.main op)) s)) ∧
  (Reads [0xD9] .reti [0, 0, 1] ∧ ∀ s, Live s → s.Poppable → ∃ m w u, Elapsed (gap s (.main 0xD9) 0) s m ∧
    Popped (gap s (.main 0xD9) 1) (gap s (.main 0xD9) 2) w m u ∧ Live u ∧
    exec .reti s = .next { u with cpu := { u.cpu with pc := w, ime := true } })

/-! ## System -/

/-- NOP, HALT, DI and EI (R340, R341, R343, R344): what each changes of the run state, and nothing else; the
instruction's internal cycles, by default none, pass. -/
def Obligations.SystemInstructions : Prop :=
  (Reads [0x00] .nop ∧ ∀ s, s.CanPass (gap s (.main 0x00) 0) →
    Completes .nop s (gap s (.main 0x00) 0) s) ∧
  (Reads [0x76] .halt ∧ ∀ s, s.CanPass (gap s (.main 0x76) 0) →
    Completes .halt s (gap s (.main 0x76) 0) { s with cpu := { s.cpu with halted := true } }) ∧
  (Reads [0xF3] .di ∧ ∀ s, s.CanPass (gap s (.main 0xF3) 0) →
    Completes .di s (gap s (.main 0xF3) 0)
      { s with cpu := { s.cpu with ime := false, imePending := false } }) ∧
  (Reads [0xFB] .ei ∧ ∀ s, s.CanPass (gap s (.main 0xFB) 0) →
    Completes .ei s (gap s (.main 0xFB) 0) { s with cpu := { s.cpu with imePending := true } })

/-- The prefix byte (R182, R346): it fetches the byte after it in one machine cycle, after the internal cycles
of its line, and is the instruction of the 0xCB page that byte selects, which completes, on a live machine
where the byte at HL can be stored. That 0xCB has an instruction of its own is the model's form (log 10). -/
def Obligations.PrefixByte : Prop :=
  ∀ (s : State) (b : Byte) (i : Instr), Live s → s.HoldsBytes s.cpu.pc [b] →
    decode [0xCB, b] = .ok (i, []) →
    ∃ u t, Live u ∧
      Elapsed ((s.cycleLine (.main 0xCB)).fetch.getD 0 0 + 1) (s.setPc (s.cpu.pc + 1)) u ∧
      exec .prefixCb s = exec i u ∧ exec .prefixCb s = .next t ∧
      ((∀ v, s.Storable (hlAddress s) v) → Live t)

/-- STOP (R342, R587): the machine is refused with the opcode's address, nothing else changed by it, and takes
no further step; its own step is the one fetch cycle, with no end-of-step check. -/
def Obligations.StopIsRefused : Prop :=
  (∀ s : State, exec .stop s = .next { s with status := .refused (.refusedStop (s.cpu.pc - 1)) } ∧
    step { s with status := .refused (.refusedStop (s.cpu.pc - 1)) } =
      .refused (.refusedStop (s.cpu.pc - 1))) ∧
  ∀ s : State, Live s → s.cpu.halted = false → s.HoldsBytes s.cpu.pc [0x10] →
    ∃ u, Elapsed 1 (s.setPc (s.cpu.pc + 1)) u ∧
      step s = .next { u with status := .refused (.refusedStop s.cpu.pc) }

/-- The eleven illegal opcodes (R345, R587): the machine is faulted with the opcode and its address, nothing
else changed by it, and takes no further step; its own step is the one fetch cycle, with no end-of-step
check. -/
def Obligations.IllegalOpcodeFaults : Prop :=
  ∀ op i, (op, i) ∈ illegalRows → Reads [op] i ∧
    (∀ s : State, exec i s = .next { s with status := .faulted (.illegalOpcode op (s.cpu.pc - 1)) } ∧
      step { s with status := .faulted (.illegalOpcode op (s.cpu.pc - 1)) } =
        .fault (.illegalOpcode op (s.cpu.pc - 1))) ∧
    ∀ s : State, Live s → s.cpu.halted = false → s.HoldsBytes s.cpu.pc [op] →
      ∃ u, Elapsed 1 (s.setPc (s.cpu.pc + 1)) u ∧
        step s = .next { u with status := .faulted (.illegalOpcode op s.cpu.pc) }
end

