-- ==== Sys2Proof/Laws/Memory.lean ====
section
/-! SUPPORT. The laws of the sparse memories: read after write, and the canonical form. -/

namespace Sys2Proof.Machine

theorem lookupCell_insertCell_same {α : Type} (m : List (Nat × α)) (i : Nat) (v : α) :
    lookupCell (insertCell m i v) i = some v := by
  induction m with
  | nil => simp [insertCell, lookupCell]
  | cons c rest ih =>
    simp only [insertCell]
    split
    · simp [lookupCell]
    · split
      · simp [lookupCell]
      · simp only [lookupCell]
        rw [if_neg (by omega), ih]

theorem lookupCell_insertCell_ne {α : Type} (m : List (Nat × α)) {i j : Nat} (v : α) (h : j ≠ i) :
    lookupCell (insertCell m i v) j = lookupCell m j := by
  induction m with
  | nil => simp [insertCell, lookupCell, Ne.symm h]
  | cons c rest ih =>
    simp only [insertCell]
    split
    · simp [lookupCell, Ne.symm h]
    · split
      · subst_vars
        simp only [lookupCell]
        rw [if_neg (Ne.symm h), if_neg (Ne.symm h)]
      · simp only [lookupCell, ih]

theorem lookupCell_eraseCell_same {α : Type} (m : List (Nat × α)) (i : Nat) :
    lookupCell (eraseCell m i) i = none := by
  induction m with
  | nil => rfl
  | cons c rest ih =>
    simp only [eraseCell]
    split
    · exact ih
    · simp only [lookupCell]
      rw [if_neg (by omega), ih]

theorem lookupCell_eraseCell_ne {α : Type} (m : List (Nat × α)) {i j : Nat} (h : j ≠ i) :
    lookupCell (eraseCell m i) j = lookupCell m j := by
  induction m with
  | nil => rfl
  | cons c rest ih =>
    simp only [eraseCell]
    split
    · rw [ih]
      simp only [lookupCell]
      rw [if_neg (by omega)]
    · simp only [lookupCell, ih]

/-- A read after a write to the same cell gives the value written. -/
@[simp] theorem Cells.get_set_same {w : Nat} (m : Cells w) (i : Nat) (v : BitVec w) :
    Cells.get (Cells.set m i v) i = v := by
  unfold Cells.get Cells.set
  split
  · simp [lookupCell_eraseCell_same, *]
  · simp [lookupCell_insertCell_same]

/-- A write leaves every other cell alone. -/
theorem Cells.get_set_ne {w : Nat} (m : Cells w) {i j : Nat} (v : BitVec w) (h : j ≠ i) :
    Cells.get (Cells.set m i v) j = Cells.get m j := by
  unfold Cells.get Cells.set
  split
  · rw [lookupCell_eraseCell_ne m h]
  · rw [lookupCell_insertCell_ne m v h]

theorem Cells.wfFrom_mono {w : Nat} (size : Nat) {low low' : Nat} (h : low' ≤ low) :
    ∀ m : Cells w, Cells.wfFrom size low m = true → Cells.wfFrom size low' m = true
  | [], _ => rfl
  | (i, v) :: rest, hm => by
    simp only [Cells.wfFrom, Bool.and_eq_true, decide_eq_true_eq] at hm ⊢
    exact ⟨⟨⟨by omega, hm.1.1.2⟩, hm.1.2⟩, hm.2⟩

theorem Cells.wfFrom_eraseCell {w : Nat} (size i : Nat) :
    ∀ (low : Nat) (m : Cells w), Cells.wfFrom size low m = true →
      Cells.wfFrom size low (eraseCell m i) = true
  | _, [], _ => rfl
  | low, (k, v) :: rest, hm => by
    simp only [Cells.wfFrom, Bool.and_eq_true, decide_eq_true_eq] at hm
    simp only [eraseCell]
    split
    · exact Cells.wfFrom_mono size (by omega) _ (Cells.wfFrom_eraseCell size i _ rest hm.2)
    · simp only [Cells.wfFrom, Bool.and_eq_true, decide_eq_true_eq]
      exact ⟨hm.1, Cells.wfFrom_eraseCell size i _ rest hm.2⟩

theorem Cells.wfFrom_insertCell {w : Nat} {size i : Nat} {v : BitVec w} (hi : i < size) (hv : v ≠ 0) :
    ∀ (low : Nat) (m : Cells w), low ≤ i → Cells.wfFrom size low m = true →
      Cells.wfFrom size low (insertCell m i v) = true
  | low, [], hl, _ => by simpa [insertCell, Cells.wfFrom, hl, hi] using hv
  | low, (k, x) :: rest, hl, hm => by
    simp only [Cells.wfFrom, Bool.and_eq_true, decide_eq_true_eq] at hm
    simp only [insertCell]
    split
    · simp only [Cells.wfFrom, Bool.and_eq_true, decide_eq_true_eq]
      exact ⟨⟨⟨hl, hi⟩, by simpa using hv⟩, ⟨⟨by omega, hm.1.1.2⟩, hm.1.2⟩, hm.2⟩
    · split
      · subst_vars
        simp only [Cells.wfFrom, Bool.and_eq_true, decide_eq_true_eq]
        exact ⟨⟨⟨hl, hi⟩, by simpa using hv⟩, hm.2⟩
      · simp only [Cells.wfFrom, Bool.and_eq_true, decide_eq_true_eq]
        exact ⟨hm.1, Cells.wfFrom_insertCell hi hv _ rest (by omega) hm.2⟩

/-- A write inside the memory keeps the canonical form. -/
theorem Cells.wf_set {w : Nat} {size i : Nat} (hi : i < size) (m : Cells w) (v : BitVec w)
    (h : Cells.wf size m = true) : Cells.wf size (Cells.set m i v) = true := by
  unfold Cells.wf Cells.set at *
  split
  · exact Cells.wfFrom_eraseCell size i 0 m h
  · exact Cells.wfFrom_insertCell hi ‹_› 0 m (Nat.zero_le _) h

/-- A write inside a byte memory keeps the canonical form. -/
theorem Memory.wf_set {size i : Nat} (hi : i < size) (m : Memory) (v : Byte)
    (h : Memory.wf size m = true) : Memory.wf size (Cells.set m i v) = true :=
  Cells.wf_set hi m v h

/-- Equal contents in canonical form are equal data. -/
theorem Cells.wfFrom_ext {w : Nat} {size : Nat} :
    ∀ (low : Nat) (m n : Cells w), Cells.wfFrom size low m = true → Cells.wfFrom size low n = true →
      (∀ i, Cells.get m i = Cells.get n i) → m = n
  | _, [], [], _, _, _ => rfl
  | low, [], (k, v) :: rest, _, hn, h => by
    simp only [Cells.wfFrom, Bool.and_eq_true, decide_eq_true_eq, bne_iff_ne, ne_eq] at hn
    have := h k
    simp only [Cells.get, lookupCell, if_pos, Option.getD_none, Option.getD_some] at this
    exact absurd this.symm hn.1.2
  | low, (k, v) :: rest, [], hm, _, h => by
    simp only [Cells.wfFrom, Bool.and_eq_true, decide_eq_true_eq, bne_iff_ne, ne_eq] at hm
    have := h k
    simp only [Cells.get, lookupCell, if_pos, Option.getD_none, Option.getD_some] at this
    exact absurd this hm.1.2
  | low, (k, v) :: rest, (j, x) :: more, hm, hn, h => by
    have below : ∀ (l : Nat) (c : Cells w), Cells.wfFrom size l c = true → ∀ i < l, Cells.get c i = 0 := by
      intro l c
      induction c generalizing l with
      | nil => intros; rfl
      | cons d ds ih =>
        intro hc i hi
        simp only [Cells.wfFrom, Bool.and_eq_true, decide_eq_true_eq] at hc
        have := ih (d.1 + 1) hc.2 i (by omega)
        simp only [Cells.get, lookupCell] at this ⊢
        rw [if_neg (by omega)]
        exact this
    simp only [Cells.wfFrom, Bool.and_eq_true, decide_eq_true_eq, bne_iff_ne, ne_eq] at hm hn
    have hk := h k
    have hj := h j
    simp only [Cells.get, lookupCell, if_pos, Option.getD_some] at hk hj
    rcases Nat.lt_trichotomy k j with hlt | heq | hgt
    · rw [if_neg (by omega)] at hk
      have := below (j + 1) more hn.2 k (by omega)
      simp only [Cells.get] at this
      exact absurd (hk.trans this) hm.1.2
    · subst heq
      rw [if_pos rfl] at hk
      simp only [Option.getD_some] at hk
      subst hk
      have hrest : ∀ i, Cells.get rest i = Cells.get more i := by
        intro i
        by_cases hi : i = k
        · subst hi
          rw [below _ rest hm.2 i (by omega), below _ more hn.2 i (by omega)]
        · have := h i
          simp only [Cells.get, lookupCell] at this ⊢
          rw [if_neg (by omega), if_neg (by omega)] at this
          exact this
      rw [Cells.wfFrom_ext (k + 1) rest more hm.2 hn.2 hrest]
    · rw [if_neg (by omega)] at hj
      have := below (k + 1) rest hm.2 j (by omega)
      simp only [Cells.get] at this
      exact absurd (hj.symm.trans this) hn.1.2

end Sys2Proof.Machine
end

