-- ==== Sys2Proof/Laws/Res.lean ====
section
/-! SUPPORT. Reasoning about parts of a step: what holds of every answer that went on, and that a part goes
on. -/

namespace Sys2Proof.Machine

/-- If the part goes on, `P` holds of what it gives; if it stops, the machine runs no more. -/
def Res.Sat {α : Type} (r : Res α) (P : α → State → Prop) : Prop :=
  match r with
  | .ok a t => P a t
  | .stop t => t.status ≠ .running

/-- The part goes on, and `P` holds of what it gives. -/
def Res.Done {α : Type} (r : Res α) (P : α → State → Prop) : Prop := ∃ a t, r = .ok a t ∧ P a t

@[simp] theorem Res.andThen_ok {α β : Type} (a : α) (s : State) (f : α → State → Res β) :
    (Res.ok a s).andThen f = f a s := rfl

@[simp] theorem Res.andThen_stop {α β : Type} (s : State) (f : α → State → Res β) :
    (Res.stop s : Res α).andThen f = .stop s := rfl

@[simp] theorem Res.sat_ok {α : Type} (a : α) (t : State) (P : α → State → Prop) :
    (Res.ok a t).Sat P = P a t := rfl

@[simp] theorem Res.sat_stop {α : Type} (t : State) (P : α → State → Prop) :
    (Res.stop t : Res α).Sat P = (t.status ≠ .running) := rfl

theorem Res.done_ok {α : Type} {a : α} {t : State} {P : α → State → Prop} (h : P a t) :
    (Res.ok a t).Done P := ⟨a, t, rfl, h⟩

/-- What went on through two parts in a row went on through each. -/
theorem Res.andThen_eq_ok {α β : Type} {r : Res α} {f : α → State → Res β} {b : β} {t : State}
    (h : r.andThen f = .ok b t) : ∃ a u, r = .ok a u ∧ f a u = .ok b t := by
  cases r with
  | ok a u => exact ⟨a, u, rfl, h⟩
  | stop u => exact absurd h (by simp)

theorem Res.Sat.mono {α : Type} {r : Res α} {P Q : α → State → Prop} (h : r.Sat P)
    (hPQ : ∀ a t, P a t → Q a t) : r.Sat Q := by
  cases r with
  | ok a t => exact hPQ a t h
  | stop t => exact h

theorem Res.Done.mono {α : Type} {r : Res α} {P Q : α → State → Prop} (h : r.Done P)
    (hPQ : ∀ a t, P a t → Q a t) : r.Done Q := by
  obtain ⟨a, t, hr, hp⟩ := h
  exact ⟨a, t, hr, hPQ a t hp⟩

theorem Res.Sat.and {α : Type} {r : Res α} {P Q : α → State → Prop} (h : r.Sat P) (h' : r.Sat Q) :
    r.Sat fun a t => P a t ∧ Q a t := by
  cases r with
  | ok a t => exact ⟨h, h'⟩
  | stop t => exact h

theorem Res.Done.and_sat {α : Type} {r : Res α} {P Q : α → State → Prop} (h : r.Done P)
    (h' : r.Sat Q) : r.Done fun a t => P a t ∧ Q a t := by
  obtain ⟨a, t, hr, hp⟩ := h
  subst hr
  exact ⟨a, t, rfl, hp, h'⟩

theorem Res.Sat.of_ok {α : Type} {r : Res α} {P : α → State → Prop} {a : α} {t : State}
    (h : r.Sat P) (hr : r = .ok a t) : P a t := by
  subst hr
  exact h

theorem Res.Sat.andThen {α β : Type} {r : Res α} {f : α → State → Res β} {P : α → State → Prop}
    {Q : β → State → Prop} (h : r.Sat P) (hf : ∀ a t, P a t → (f a t).Sat Q) : (r.andThen f).Sat Q := by
  cases r with
  | ok a t => exact hf a t h
  | stop t => exact h

theorem Res.Done.andThen {α β : Type} {r : Res α} {f : α → State → Res β} {P : α → State → Prop}
    {Q : β → State → Prop} (h : r.Done P) (hf : ∀ a t, P a t → (f a t).Done Q) :
    (r.andThen f).Done Q := by
  obtain ⟨a, t, hr, hp⟩ := h
  subst hr
  exact hf a t hp

/-- A relation that a part keeps, and that is reflexive and transitive, holds across `n` of it. -/
theorem Res.sat_repeat {f : State → Res Unit} {P : Nat → State → State → Prop}
    (refl : ∀ s, P 0 s s)
    (next : ∀ n s, (f s).Sat fun _ t => ∀ u, P n t u → P (n + 1) s u) :
    ∀ n s, (Res.repeat f n s).Sat fun _ t => P n s t
  | 0, s => refl s
  | n + 1, s =>
    (next n s).andThen fun _ t ht => (Res.sat_repeat refl next n t).mono fun _ u hu => ht u hu

/-- A part that goes on from every good state, to a good state, goes on `n` times. -/
theorem Res.done_repeat {f : State → Res Unit} {G : State → Prop}
    (next : ∀ s, G s → (f s).Done fun _ t => G t) :
    ∀ n s, G s → (Res.repeat f n s).Done fun _ t => G t
  | 0, _, hs => Res.done_ok hs
  | n + 1, s, hs => (next s hs).andThen fun _ t ht => Res.done_repeat next n t ht

/-- What a part keeps wherever it goes on, `n` of it keep. -/
theorem Res.sat_repeat_keep {f : State → Res Unit} {G : State → Prop}
    (next : ∀ s, G s → (f s).Sat fun _ t => G t) :
    ∀ n s, G s → (Res.repeat f n s).Sat fun _ t => G t
  | 0, _, hs => hs
  | n + 1, s, hs => (next s hs).andThen fun _ t ht => Res.sat_repeat_keep next n t ht

/-- A stopped machine is not running. -/
@[simp] theorem sat_raise {α : Type} (f : Fault) (s : State) (P : α → State → Prop) :
    (raise f s : Res α).Sat P := by
  simp [raise]

@[simp] theorem sat_refuse {α : Type} (r : Refusal) (s : State) (P : α → State → Prop) :
    (refuse r s : Res α).Sat P := by
  simp [refuse]

end Sys2Proof.Machine
end

