-- ==== Sys2Proof/Laws/State.lean ====
section
/-! SUPPORT. One lemma per field per update of State: which field an update leaves and what it writes. -/

namespace Sys2Proof.Machine

@[simp] theorem State.setReg8_params (s : State) (r : Reg8) (v : Byte) :
    (s.setReg8 r v).params = s.params := by cases r <;> rfl

@[simp] theorem State.setReg8_status (s : State) (r : Reg8) (v : Byte) :
    (s.setReg8 r v).status = s.status := by cases r <;> rfl

@[simp] theorem State.setReg8_irq (s : State) (r : Reg8) (v : Byte) :
    (s.setReg8 r v).irq = s.irq := by cases r <;> rfl

@[simp] theorem State.setReg8_timer (s : State) (r : Reg8) (v : Byte) :
    (s.setReg8 r v).timer = s.timer := by cases r <;> rfl

@[simp] theorem State.setReg8_dma (s : State) (r : Reg8) (v : Byte) :
    (s.setReg8 r v).dma = s.dma := by cases r <;> rfl

@[simp] theorem State.setReg8_hdma (s : State) (r : Reg8) (v : Byte) :
    (s.setReg8 r v).hdma = s.hdma := by cases r <;> rfl

@[simp] theorem State.setReg8_lcd (s : State) (r : Reg8) (v : Byte) :
    (s.setReg8 r v).lcd = s.lcd := by cases r <;> rfl

@[simp] theorem State.setReg8_ppu (s : State) (r : Reg8) (v : Byte) :
    (s.setReg8 r v).ppu = s.ppu := by cases r <;> rfl

@[simp] theorem State.setReg8_pipe (s : State) (r : Reg8) (v : Byte) :
    (s.setReg8 r v).pipe = s.pipe := by cases r <;> rfl

@[simp] theorem State.setReg8_mem (s : State) (r : Reg8) (v : Byte) :
    (s.setReg8 r v).mem = s.mem := by cases r <;> rfl

@[simp] theorem State.setReg8_dev (s : State) (r : Reg8) (v : Byte) :
    (s.setReg8 r v).dev = s.dev := by cases r <;> rfl

@[simp] theorem State.setReg8_events (s : State) (r : Reg8) (v : Byte) :
    (s.setReg8 r v).events = s.events := by cases r <;> rfl

@[simp] theorem State.setReg8_draws (s : State) (r : Reg8) (v : Byte) :
    (s.setReg8 r v).draws = s.draws := by cases r <;> rfl

@[simp] theorem State.setReg8_cycles (s : State) (r : Reg8) (v : Byte) :
    (s.setReg8 r v).cycles = s.cycles := by cases r <;> rfl

@[simp] theorem State.setReg8_cpu_f (s : State) (r : Reg8) (v : Byte) :
    (s.setReg8 r v).cpu.f = s.cpu.f := by cases r <;> rfl

@[simp] theorem State.setReg8_cpu_sp (s : State) (r : Reg8) (v : Byte) :
    (s.setReg8 r v).cpu.sp = s.cpu.sp := by cases r <;> rfl

@[simp] theorem State.setReg8_cpu_pc (s : State) (r : Reg8) (v : Byte) :
    (s.setReg8 r v).cpu.pc = s.cpu.pc := by cases r <;> rfl

@[simp] theorem State.setReg8_cpu_halted (s : State) (r : Reg8) (v : Byte) :
    (s.setReg8 r v).cpu.halted = s.cpu.halted := by cases r <;> rfl

@[simp] theorem State.setReg8_cpu_ime (s : State) (r : Reg8) (v : Byte) :
    (s.setReg8 r v).cpu.ime = s.cpu.ime := by cases r <;> rfl

@[simp] theorem State.setReg8_cpu_imePending (s : State) (r : Reg8) (v : Byte) :
    (s.setReg8 r v).cpu.imePending = s.cpu.imePending := by cases r <;> rfl

@[simp] theorem State.setReg16_params (s : State) (r : Reg16) (v : Word) :
    (s.setReg16 r v).params = s.params := by cases r <;> rfl

@[simp] theorem State.setReg16_status (s : State) (r : Reg16) (v : Word) :
    (s.setReg16 r v).status = s.status := by cases r <;> rfl

@[simp] theorem State.setReg16_irq (s : State) (r : Reg16) (v : Word) :
    (s.setReg16 r v).irq = s.irq := by cases r <;> rfl

@[simp] theorem State.setReg16_timer (s : State) (r : Reg16) (v : Word) :
    (s.setReg16 r v).timer = s.timer := by cases r <;> rfl

@[simp] theorem State.setReg16_dma (s : State) (r : Reg16) (v : Word) :
    (s.setReg16 r v).dma = s.dma := by cases r <;> rfl

@[simp] theorem State.setReg16_hdma (s : State) (r : Reg16) (v : Word) :
    (s.setReg16 r v).hdma = s.hdma := by cases r <;> rfl

@[simp] theorem State.setReg16_lcd (s : State) (r : Reg16) (v : Word) :
    (s.setReg16 r v).lcd = s.lcd := by cases r <;> rfl

@[simp] theorem State.setReg16_ppu (s : State) (r : Reg16) (v : Word) :
    (s.setReg16 r v).ppu = s.ppu := by cases r <;> rfl

@[simp] theorem State.setReg16_pipe (s : State) (r : Reg16) (v : Word) :
    (s.setReg16 r v).pipe = s.pipe := by cases r <;> rfl

@[simp] theorem State.setReg16_mem (s : State) (r : Reg16) (v : Word) :
    (s.setReg16 r v).mem = s.mem := by cases r <;> rfl

@[simp] theorem State.setReg16_dev (s : State) (r : Reg16) (v : Word) :
    (s.setReg16 r v).dev = s.dev := by cases r <;> rfl

@[simp] theorem State.setReg16_events (s : State) (r : Reg16) (v : Word) :
    (s.setReg16 r v).events = s.events := by cases r <;> rfl

@[simp] theorem State.setReg16_draws (s : State) (r : Reg16) (v : Word) :
    (s.setReg16 r v).draws = s.draws := by cases r <;> rfl

@[simp] theorem State.setReg16_cycles (s : State) (r : Reg16) (v : Word) :
    (s.setReg16 r v).cycles = s.cycles := by cases r <;> rfl

@[simp] theorem State.setReg16_cpu_a (s : State) (r : Reg16) (v : Word) :
    (s.setReg16 r v).cpu.a = s.cpu.a := by cases r <;> rfl

@[simp] theorem State.setReg16_cpu_f (s : State) (r : Reg16) (v : Word) :
    (s.setReg16 r v).cpu.f = s.cpu.f := by cases r <;> rfl

@[simp] theorem State.setReg16_cpu_pc (s : State) (r : Reg16) (v : Word) :
    (s.setReg16 r v).cpu.pc = s.cpu.pc := by cases r <;> rfl

@[simp] theorem State.setReg16_cpu_halted (s : State) (r : Reg16) (v : Word) :
    (s.setReg16 r v).cpu.halted = s.cpu.halted := by cases r <;> rfl

@[simp] theorem State.setReg16_cpu_ime (s : State) (r : Reg16) (v : Word) :
    (s.setReg16 r v).cpu.ime = s.cpu.ime := by cases r <;> rfl

@[simp] theorem State.setReg16_cpu_imePending (s : State) (r : Reg16) (v : Word) :
    (s.setReg16 r v).cpu.imePending = s.cpu.imePending := by cases r <;> rfl

@[simp] theorem State.setStackReg_params (s : State) (r : StackReg) (v : Word) :
    (s.setStackReg r v).params = s.params := by cases r <;> rfl

@[simp] theorem State.setStackReg_status (s : State) (r : StackReg) (v : Word) :
    (s.setStackReg r v).status = s.status := by cases r <;> rfl

@[simp] theorem State.setStackReg_irq (s : State) (r : StackReg) (v : Word) :
    (s.setStackReg r v).irq = s.irq := by cases r <;> rfl

@[simp] theorem State.setStackReg_timer (s : State) (r : StackReg) (v : Word) :
    (s.setStackReg r v).timer = s.timer := by cases r <;> rfl

@[simp] theorem State.setStackReg_dma (s : State) (r : StackReg) (v : Word) :
    (s.setStackReg r v).dma = s.dma := by cases r <;> rfl

@[simp] theorem State.setStackReg_hdma (s : State) (r : StackReg) (v : Word) :
    (s.setStackReg r v).hdma = s.hdma := by cases r <;> rfl

@[simp] theorem State.setStackReg_lcd (s : State) (r : StackReg) (v : Word) :
    (s.setStackReg r v).lcd = s.lcd := by cases r <;> rfl

@[simp] theorem State.setStackReg_ppu (s : State) (r : StackReg) (v : Word) :
    (s.setStackReg r v).ppu = s.ppu := by cases r <;> rfl

@[simp] theorem State.setStackReg_pipe (s : State) (r : StackReg) (v : Word) :
    (s.setStackReg r v).pipe = s.pipe := by cases r <;> rfl

@[simp] theorem State.setStackReg_mem (s : State) (r : StackReg) (v : Word) :
    (s.setStackReg r v).mem = s.mem := by cases r <;> rfl

@[simp] theorem State.setStackReg_dev (s : State) (r : StackReg) (v : Word) :
    (s.setStackReg r v).dev = s.dev := by cases r <;> rfl

@[simp] theorem State.setStackReg_events (s : State) (r : StackReg) (v : Word) :
    (s.setStackReg r v).events = s.events := by cases r <;> rfl

@[simp] theorem State.setStackReg_draws (s : State) (r : StackReg) (v : Word) :
    (s.setStackReg r v).draws = s.draws := by cases r <;> rfl

@[simp] theorem State.setStackReg_cycles (s : State) (r : StackReg) (v : Word) :
    (s.setStackReg r v).cycles = s.cycles := by cases r <;> rfl

@[simp] theorem State.setStackReg_cpu_sp (s : State) (r : StackReg) (v : Word) :
    (s.setStackReg r v).cpu.sp = s.cpu.sp := by cases r <;> rfl

@[simp] theorem State.setStackReg_cpu_pc (s : State) (r : StackReg) (v : Word) :
    (s.setStackReg r v).cpu.pc = s.cpu.pc := by cases r <;> rfl

@[simp] theorem State.setStackReg_cpu_halted (s : State) (r : StackReg) (v : Word) :
    (s.setStackReg r v).cpu.halted = s.cpu.halted := by cases r <;> rfl

@[simp] theorem State.setStackReg_cpu_ime (s : State) (r : StackReg) (v : Word) :
    (s.setStackReg r v).cpu.ime = s.cpu.ime := by cases r <;> rfl

@[simp] theorem State.setStackReg_cpu_imePending (s : State) (r : StackReg) (v : Word) :
    (s.setStackReg r v).cpu.imePending = s.cpu.imePending := by cases r <;> rfl

@[simp] theorem State.setFlagsByte_params (s : State) (v : Byte) :
    (s.setFlagsByte v).params = s.params := rfl

@[simp] theorem State.setFlagsByte_status (s : State) (v : Byte) :
    (s.setFlagsByte v).status = s.status := rfl

@[simp] theorem State.setFlagsByte_irq (s : State) (v : Byte) :
    (s.setFlagsByte v).irq = s.irq := rfl

@[simp] theorem State.setFlagsByte_timer (s : State) (v : Byte) :
    (s.setFlagsByte v).timer = s.timer := rfl

@[simp] theorem State.setFlagsByte_dma (s : State) (v : Byte) :
    (s.setFlagsByte v).dma = s.dma := rfl

@[simp] theorem State.setFlagsByte_hdma (s : State) (v : Byte) :
    (s.setFlagsByte v).hdma = s.hdma := rfl

@[simp] theorem State.setFlagsByte_lcd (s : State) (v : Byte) :
    (s.setFlagsByte v).lcd = s.lcd := rfl

@[simp] theorem State.setFlagsByte_ppu (s : State) (v : Byte) :
    (s.setFlagsByte v).ppu = s.ppu := rfl

@[simp] theorem State.setFlagsByte_pipe (s : State) (v : Byte) :
    (s.setFlagsByte v).pipe = s.pipe := rfl

@[simp] theorem State.setFlagsByte_mem (s : State) (v : Byte) :
    (s.setFlagsByte v).mem = s.mem := rfl

@[simp] theorem State.setFlagsByte_dev (s : State) (v : Byte) :
    (s.setFlagsByte v).dev = s.dev := rfl

@[simp] theorem State.setFlagsByte_events (s : State) (v : Byte) :
    (s.setFlagsByte v).events = s.events := rfl

@[simp] theorem State.setFlagsByte_draws (s : State) (v : Byte) :
    (s.setFlagsByte v).draws = s.draws := rfl

@[simp] theorem State.setFlagsByte_cycles (s : State) (v : Byte) :
    (s.setFlagsByte v).cycles = s.cycles := rfl

@[simp] theorem State.setFlagsByte_cpu_a (s : State) (v : Byte) :
    (s.setFlagsByte v).cpu.a = s.cpu.a := rfl

@[simp] theorem State.setFlagsByte_cpu_b (s : State) (v : Byte) :
    (s.setFlagsByte v).cpu.b = s.cpu.b := rfl

@[simp] theorem State.setFlagsByte_cpu_c (s : State) (v : Byte) :
    (s.setFlagsByte v).cpu.c = s.cpu.c := rfl

@[simp] theorem State.setFlagsByte_cpu_d (s : State) (v : Byte) :
    (s.setFlagsByte v).cpu.d = s.cpu.d := rfl

@[simp] theorem State.setFlagsByte_cpu_e (s : State) (v : Byte) :
    (s.setFlagsByte v).cpu.e = s.cpu.e := rfl

@[simp] theorem State.setFlagsByte_cpu_h (s : State) (v : Byte) :
    (s.setFlagsByte v).cpu.h = s.cpu.h := rfl

@[simp] theorem State.setFlagsByte_cpu_l (s : State) (v : Byte) :
    (s.setFlagsByte v).cpu.l = s.cpu.l := rfl

@[simp] theorem State.setFlagsByte_cpu_sp (s : State) (v : Byte) :
    (s.setFlagsByte v).cpu.sp = s.cpu.sp := rfl

@[simp] theorem State.setFlagsByte_cpu_pc (s : State) (v : Byte) :
    (s.setFlagsByte v).cpu.pc = s.cpu.pc := rfl

@[simp] theorem State.setFlagsByte_cpu_halted (s : State) (v : Byte) :
    (s.setFlagsByte v).cpu.halted = s.cpu.halted := rfl

@[simp] theorem State.setFlagsByte_cpu_ime (s : State) (v : Byte) :
    (s.setFlagsByte v).cpu.ime = s.cpu.ime := rfl

@[simp] theorem State.setFlagsByte_cpu_imePending (s : State) (v : Byte) :
    (s.setFlagsByte v).cpu.imePending = s.cpu.imePending := rfl

@[simp] theorem State.setFlags_params (s : State) (f : Flags) :
    (s.setFlags f).params = s.params := rfl

@[simp] theorem State.setFlags_status (s : State) (f : Flags) :
    (s.setFlags f).status = s.status := rfl

@[simp] theorem State.setFlags_irq (s : State) (f : Flags) :
    (s.setFlags f).irq = s.irq := rfl

@[simp] theorem State.setFlags_timer (s : State) (f : Flags) :
    (s.setFlags f).timer = s.timer := rfl

@[simp] theorem State.setFlags_dma (s : State) (f : Flags) :
    (s.setFlags f).dma = s.dma := rfl

@[simp] theorem State.setFlags_hdma (s : State) (f : Flags) :
    (s.setFlags f).hdma = s.hdma := rfl

@[simp] theorem State.setFlags_lcd (s : State) (f : Flags) :
    (s.setFlags f).lcd = s.lcd := rfl

@[simp] theorem State.setFlags_ppu (s : State) (f : Flags) :
    (s.setFlags f).ppu = s.ppu := rfl

@[simp] theorem State.setFlags_pipe (s : State) (f : Flags) :
    (s.setFlags f).pipe = s.pipe := rfl

@[simp] theorem State.setFlags_mem (s : State) (f : Flags) :
    (s.setFlags f).mem = s.mem := rfl

@[simp] theorem State.setFlags_dev (s : State) (f : Flags) :
    (s.setFlags f).dev = s.dev := rfl

@[simp] theorem State.setFlags_events (s : State) (f : Flags) :
    (s.setFlags f).events = s.events := rfl

@[simp] theorem State.setFlags_draws (s : State) (f : Flags) :
    (s.setFlags f).draws = s.draws := rfl

@[simp] theorem State.setFlags_cycles (s : State) (f : Flags) :
    (s.setFlags f).cycles = s.cycles := rfl

@[simp] theorem State.setFlags_cpu_a (s : State) (f : Flags) :
    (s.setFlags f).cpu.a = s.cpu.a := rfl

@[simp] theorem State.setFlags_cpu_b (s : State) (f : Flags) :
    (s.setFlags f).cpu.b = s.cpu.b := rfl

@[simp] theorem State.setFlags_cpu_c (s : State) (f : Flags) :
    (s.setFlags f).cpu.c = s.cpu.c := rfl

@[simp] theorem State.setFlags_cpu_d (s : State) (f : Flags) :
    (s.setFlags f).cpu.d = s.cpu.d := rfl

@[simp] theorem State.setFlags_cpu_e (s : State) (f : Flags) :
    (s.setFlags f).cpu.e = s.cpu.e := rfl

@[simp] theorem State.setFlags_cpu_h (s : State) (f : Flags) :
    (s.setFlags f).cpu.h = s.cpu.h := rfl

@[simp] theorem State.setFlags_cpu_l (s : State) (f : Flags) :
    (s.setFlags f).cpu.l = s.cpu.l := rfl

@[simp] theorem State.setFlags_cpu_sp (s : State) (f : Flags) :
    (s.setFlags f).cpu.sp = s.cpu.sp := rfl

@[simp] theorem State.setFlags_cpu_pc (s : State) (f : Flags) :
    (s.setFlags f).cpu.pc = s.cpu.pc := rfl

@[simp] theorem State.setFlags_cpu_halted (s : State) (f : Flags) :
    (s.setFlags f).cpu.halted = s.cpu.halted := rfl

@[simp] theorem State.setFlags_cpu_ime (s : State) (f : Flags) :
    (s.setFlags f).cpu.ime = s.cpu.ime := rfl

@[simp] theorem State.setFlags_cpu_imePending (s : State) (f : Flags) :
    (s.setFlags f).cpu.imePending = s.cpu.imePending := rfl

@[simp] theorem State.setPc_params (s : State) (a : Word) :
    (s.setPc a).params = s.params := rfl

@[simp] theorem State.setPc_status (s : State) (a : Word) :
    (s.setPc a).status = s.status := rfl

@[simp] theorem State.setPc_irq (s : State) (a : Word) :
    (s.setPc a).irq = s.irq := rfl

@[simp] theorem State.setPc_timer (s : State) (a : Word) :
    (s.setPc a).timer = s.timer := rfl

@[simp] theorem State.setPc_dma (s : State) (a : Word) :
    (s.setPc a).dma = s.dma := rfl

@[simp] theorem State.setPc_hdma (s : State) (a : Word) :
    (s.setPc a).hdma = s.hdma := rfl

@[simp] theorem State.setPc_lcd (s : State) (a : Word) :
    (s.setPc a).lcd = s.lcd := rfl

@[simp] theorem State.setPc_ppu (s : State) (a : Word) :
    (s.setPc a).ppu = s.ppu := rfl

@[simp] theorem State.setPc_pipe (s : State) (a : Word) :
    (s.setPc a).pipe = s.pipe := rfl

@[simp] theorem State.setPc_mem (s : State) (a : Word) :
    (s.setPc a).mem = s.mem := rfl

@[simp] theorem State.setPc_dev (s : State) (a : Word) :
    (s.setPc a).dev = s.dev := rfl

@[simp] theorem State.setPc_events (s : State) (a : Word) :
    (s.setPc a).events = s.events := rfl

@[simp] theorem State.setPc_draws (s : State) (a : Word) :
    (s.setPc a).draws = s.draws := rfl

@[simp] theorem State.setPc_cycles (s : State) (a : Word) :
    (s.setPc a).cycles = s.cycles := rfl

@[simp] theorem State.setPc_cpu_a (s : State) (a : Word) :
    (s.setPc a).cpu.a = s.cpu.a := rfl

@[simp] theorem State.setPc_cpu_f (s : State) (a : Word) :
    (s.setPc a).cpu.f = s.cpu.f := rfl

@[simp] theorem State.setPc_cpu_b (s : State) (a : Word) :
    (s.setPc a).cpu.b = s.cpu.b := rfl

@[simp] theorem State.setPc_cpu_c (s : State) (a : Word) :
    (s.setPc a).cpu.c = s.cpu.c := rfl

@[simp] theorem State.setPc_cpu_d (s : State) (a : Word) :
    (s.setPc a).cpu.d = s.cpu.d := rfl

@[simp] theorem State.setPc_cpu_e (s : State) (a : Word) :
    (s.setPc a).cpu.e = s.cpu.e := rfl

@[simp] theorem State.setPc_cpu_h (s : State) (a : Word) :
    (s.setPc a).cpu.h = s.cpu.h := rfl

@[simp] theorem State.setPc_cpu_l (s : State) (a : Word) :
    (s.setPc a).cpu.l = s.cpu.l := rfl

@[simp] theorem State.setPc_cpu_sp (s : State) (a : Word) :
    (s.setPc a).cpu.sp = s.cpu.sp := rfl

@[simp] theorem State.setPc_cpu_halted (s : State) (a : Word) :
    (s.setPc a).cpu.halted = s.cpu.halted := rfl

@[simp] theorem State.setPc_cpu_ime (s : State) (a : Word) :
    (s.setPc a).cpu.ime = s.cpu.ime := rfl

@[simp] theorem State.setPc_cpu_imePending (s : State) (a : Word) :
    (s.setPc a).cpu.imePending = s.cpu.imePending := rfl

@[simp] theorem State.setSp_params (s : State) (a : Word) :
    (s.setSp a).params = s.params := rfl

@[simp] theorem State.setSp_status (s : State) (a : Word) :
    (s.setSp a).status = s.status := rfl

@[simp] theorem State.setSp_irq (s : State) (a : Word) :
    (s.setSp a).irq = s.irq := rfl

@[simp] theorem State.setSp_timer (s : State) (a : Word) :
    (s.setSp a).timer = s.timer := rfl

@[simp] theorem State.setSp_dma (s : State) (a : Word) :
    (s.setSp a).dma = s.dma := rfl

@[simp] theorem State.setSp_hdma (s : State) (a : Word) :
    (s.setSp a).hdma = s.hdma := rfl

@[simp] theorem State.setSp_lcd (s : State) (a : Word) :
    (s.setSp a).lcd = s.lcd := rfl

@[simp] theorem State.setSp_ppu (s : State) (a : Word) :
    (s.setSp a).ppu = s.ppu := rfl

@[simp] theorem State.setSp_pipe (s : State) (a : Word) :
    (s.setSp a).pipe = s.pipe := rfl

@[simp] theorem State.setSp_mem (s : State) (a : Word) :
    (s.setSp a).mem = s.mem := rfl

@[simp] theorem State.setSp_dev (s : State) (a : Word) :
    (s.setSp a).dev = s.dev := rfl

@[simp] theorem State.setSp_events (s : State) (a : Word) :
    (s.setSp a).events = s.events := rfl

@[simp] theorem State.setSp_draws (s : State) (a : Word) :
    (s.setSp a).draws = s.draws := rfl

@[simp] theorem State.setSp_cycles (s : State) (a : Word) :
    (s.setSp a).cycles = s.cycles := rfl

@[simp] theorem State.setSp_cpu_a (s : State) (a : Word) :
    (s.setSp a).cpu.a = s.cpu.a := rfl

@[simp] theorem State.setSp_cpu_f (s : State) (a : Word) :
    (s.setSp a).cpu.f = s.cpu.f := rfl

@[simp] theorem State.setSp_cpu_b (s : State) (a : Word) :
    (s.setSp a).cpu.b = s.cpu.b := rfl

@[simp] theorem State.setSp_cpu_c (s : State) (a : Word) :
    (s.setSp a).cpu.c = s.cpu.c := rfl

@[simp] theorem State.setSp_cpu_d (s : State) (a : Word) :
    (s.setSp a).cpu.d = s.cpu.d := rfl

@[simp] theorem State.setSp_cpu_e (s : State) (a : Word) :
    (s.setSp a).cpu.e = s.cpu.e := rfl

@[simp] theorem State.setSp_cpu_h (s : State) (a : Word) :
    (s.setSp a).cpu.h = s.cpu.h := rfl

@[simp] theorem State.setSp_cpu_l (s : State) (a : Word) :
    (s.setSp a).cpu.l = s.cpu.l := rfl

@[simp] theorem State.setSp_cpu_pc (s : State) (a : Word) :
    (s.setSp a).cpu.pc = s.cpu.pc := rfl

@[simp] theorem State.setSp_cpu_halted (s : State) (a : Word) :
    (s.setSp a).cpu.halted = s.cpu.halted := rfl

@[simp] theorem State.setSp_cpu_ime (s : State) (a : Word) :
    (s.setSp a).cpu.ime = s.cpu.ime := rfl

@[simp] theorem State.setSp_cpu_imePending (s : State) (a : Word) :
    (s.setSp a).cpu.imePending = s.cpu.imePending := rfl

@[simp] theorem warn_params (a : Word) (s : State) :
    (warn a s).params = s.params := rfl

@[simp] theorem warn_status (a : Word) (s : State) :
    (warn a s).status = s.status := rfl

@[simp] theorem warn_cpu (a : Word) (s : State) :
    (warn a s).cpu = s.cpu := rfl

@[simp] theorem warn_irq (a : Word) (s : State) :
    (warn a s).irq = s.irq := rfl

@[simp] theorem warn_timer (a : Word) (s : State) :
    (warn a s).timer = s.timer := rfl

@[simp] theorem warn_dma (a : Word) (s : State) :
    (warn a s).dma = s.dma := rfl

@[simp] theorem warn_hdma (a : Word) (s : State) :
    (warn a s).hdma = s.hdma := rfl

@[simp] theorem warn_lcd (a : Word) (s : State) :
    (warn a s).lcd = s.lcd := rfl

@[simp] theorem warn_ppu (a : Word) (s : State) :
    (warn a s).ppu = s.ppu := rfl

@[simp] theorem warn_pipe (a : Word) (s : State) :
    (warn a s).pipe = s.pipe := rfl

@[simp] theorem warn_mem (a : Word) (s : State) :
    (warn a s).mem = s.mem := rfl

@[simp] theorem warn_dev (a : Word) (s : State) :
    (warn a s).dev = s.dev := rfl

@[simp] theorem warn_draws (a : Word) (s : State) :
    (warn a s).draws = s.draws := rfl

@[simp] theorem warn_cycles (a : Word) (s : State) :
    (warn a s).cycles = s.cycles := rfl

@[simp] theorem request_params (k : Nat) (s : State) :
    (request k s).params = s.params := rfl

@[simp] theorem request_status (k : Nat) (s : State) :
    (request k s).status = s.status := rfl

@[simp] theorem request_cpu (k : Nat) (s : State) :
    (request k s).cpu = s.cpu := rfl

@[simp] theorem request_timer (k : Nat) (s : State) :
    (request k s).timer = s.timer := rfl

@[simp] theorem request_dma (k : Nat) (s : State) :
    (request k s).dma = s.dma := rfl

@[simp] theorem request_hdma (k : Nat) (s : State) :
    (request k s).hdma = s.hdma := rfl

@[simp] theorem request_lcd (k : Nat) (s : State) :
    (request k s).lcd = s.lcd := rfl

@[simp] theorem request_ppu (k : Nat) (s : State) :
    (request k s).ppu = s.ppu := rfl

@[simp] theorem request_pipe (k : Nat) (s : State) :
    (request k s).pipe = s.pipe := rfl

@[simp] theorem request_mem (k : Nat) (s : State) :
    (request k s).mem = s.mem := rfl

@[simp] theorem request_dev (k : Nat) (s : State) :
    (request k s).dev = s.dev := rfl

@[simp] theorem request_events (k : Nat) (s : State) :
    (request k s).events = s.events := rfl

@[simp] theorem request_draws (k : Nat) (s : State) :
    (request k s).draws = s.draws := rfl

@[simp] theorem request_cycles (k : Nat) (s : State) :
    (request k s).cycles = s.cycles := rfl

@[simp] theorem clearImePending_params (s : State) :
    (clearImePending s).params = s.params := rfl

@[simp] theorem clearImePending_status (s : State) :
    (clearImePending s).status = s.status := rfl

@[simp] theorem clearImePending_irq (s : State) :
    (clearImePending s).irq = s.irq := rfl

@[simp] theorem clearImePending_timer (s : State) :
    (clearImePending s).timer = s.timer := rfl

@[simp] theorem clearImePending_dma (s : State) :
    (clearImePending s).dma = s.dma := rfl

@[simp] theorem clearImePending_hdma (s : State) :
    (clearImePending s).hdma = s.hdma := rfl

@[simp] theorem clearImePending_lcd (s : State) :
    (clearImePending s).lcd = s.lcd := rfl

@[simp] theorem clearImePending_ppu (s : State) :
    (clearImePending s).ppu = s.ppu := rfl

@[simp] theorem clearImePending_pipe (s : State) :
    (clearImePending s).pipe = s.pipe := rfl

@[simp] theorem clearImePending_mem (s : State) :
    (clearImePending s).mem = s.mem := rfl

@[simp] theorem clearImePending_dev (s : State) :
    (clearImePending s).dev = s.dev := rfl

@[simp] theorem clearImePending_events (s : State) :
    (clearImePending s).events = s.events := rfl

@[simp] theorem clearImePending_draws (s : State) :
    (clearImePending s).draws = s.draws := rfl

@[simp] theorem clearImePending_cycles (s : State) :
    (clearImePending s).cycles = s.cycles := rfl

@[simp] theorem clearImePending_cpu_a (s : State) :
    (clearImePending s).cpu.a = s.cpu.a := rfl

@[simp] theorem clearImePending_cpu_f (s : State) :
    (clearImePending s).cpu.f = s.cpu.f := rfl

@[simp] theorem clearImePending_cpu_b (s : State) :
    (clearImePending s).cpu.b = s.cpu.b := rfl

@[simp] theorem clearImePending_cpu_c (s : State) :
    (clearImePending s).cpu.c = s.cpu.c := rfl

@[simp] theorem clearImePending_cpu_d (s : State) :
    (clearImePending s).cpu.d = s.cpu.d := rfl

@[simp] theorem clearImePending_cpu_e (s : State) :
    (clearImePending s).cpu.e = s.cpu.e := rfl

@[simp] theorem clearImePending_cpu_h (s : State) :
    (clearImePending s).cpu.h = s.cpu.h := rfl

@[simp] theorem clearImePending_cpu_l (s : State) :
    (clearImePending s).cpu.l = s.cpu.l := rfl

@[simp] theorem clearImePending_cpu_sp (s : State) :
    (clearImePending s).cpu.sp = s.cpu.sp := rfl

@[simp] theorem clearImePending_cpu_pc (s : State) :
    (clearImePending s).cpu.pc = s.cpu.pc := rfl

@[simp] theorem clearImePending_cpu_halted (s : State) :
    (clearImePending s).cpu.halted = s.cpu.halted := rfl

@[simp] theorem clearImePending_cpu_ime (s : State) :
    (clearImePending s).cpu.ime = s.cpu.ime := rfl

@[simp] theorem State.awake_params (s : State) :
    (s.awake).params = s.params := rfl

@[simp] theorem State.awake_irq (s : State) :
    (s.awake).irq = s.irq := rfl

@[simp] theorem State.awake_timer (s : State) :
    (s.awake).timer = s.timer := rfl

@[simp] theorem State.awake_dma (s : State) :
    (s.awake).dma = s.dma := rfl

@[simp] theorem State.awake_hdma (s : State) :
    (s.awake).hdma = s.hdma := rfl

@[simp] theorem State.awake_lcd (s : State) :
    (s.awake).lcd = s.lcd := rfl

@[simp] theorem State.awake_ppu (s : State) :
    (s.awake).ppu = s.ppu := rfl

@[simp] theorem State.awake_pipe (s : State) :
    (s.awake).pipe = s.pipe := rfl

@[simp] theorem State.awake_mem (s : State) :
    (s.awake).mem = s.mem := rfl

@[simp] theorem State.awake_dev (s : State) :
    (s.awake).dev = s.dev := rfl

@[simp] theorem State.awake_events (s : State) :
    (s.awake).events = s.events := rfl

@[simp] theorem State.awake_draws (s : State) :
    (s.awake).draws = s.draws := rfl

@[simp] theorem State.awake_cycles (s : State) :
    (s.awake).cycles = s.cycles := rfl

@[simp] theorem State.awake_cpu_a (s : State) :
    (s.awake).cpu.a = s.cpu.a := rfl

@[simp] theorem State.awake_cpu_f (s : State) :
    (s.awake).cpu.f = s.cpu.f := rfl

@[simp] theorem State.awake_cpu_b (s : State) :
    (s.awake).cpu.b = s.cpu.b := rfl

@[simp] theorem State.awake_cpu_c (s : State) :
    (s.awake).cpu.c = s.cpu.c := rfl

@[simp] theorem State.awake_cpu_d (s : State) :
    (s.awake).cpu.d = s.cpu.d := rfl

@[simp] theorem State.awake_cpu_e (s : State) :
    (s.awake).cpu.e = s.cpu.e := rfl

@[simp] theorem State.awake_cpu_h (s : State) :
    (s.awake).cpu.h = s.cpu.h := rfl

@[simp] theorem State.awake_cpu_l (s : State) :
    (s.awake).cpu.l = s.cpu.l := rfl

@[simp] theorem State.awake_cpu_sp (s : State) :
    (s.awake).cpu.sp = s.cpu.sp := rfl

@[simp] theorem State.awake_cpu_pc (s : State) :
    (s.awake).cpu.pc = s.cpu.pc := rfl

@[simp] theorem State.awake_cpu_ime (s : State) :
    (s.awake).cpu.ime = s.cpu.ime := rfl

@[simp] theorem State.awake_cpu_imePending (s : State) :
    (s.awake).cpu.imePending = s.cpu.imePending := rfl

@[simp] theorem State.setPc_cpu_pc (s : State) (a : Word) :
    (s.setPc a).cpu.pc = a := rfl

@[simp] theorem State.setSp_cpu_sp (s : State) (a : Word) :
    (s.setSp a).cpu.sp = a := rfl

@[simp] theorem State.setFlagsByte_cpu_f (s : State) (v : Byte) :
    (s.setFlagsByte v).cpu.f = v &&& 0xF0 := rfl

@[simp] theorem warn_events (a : Word) (s : State) :
    (warn a s).events = s.events ++ [.warning a] := rfl

@[simp] theorem request_irq_ie (k : Nat) (s : State) :
    (request k s).irq.ie = s.irq.ie := rfl

@[simp] theorem request_irq_req (k : Nat) (s : State) :
    (request k s).irq.req = s.irq.req ||| (1#5 <<< k) := rfl

@[simp] theorem clearImePending_cpu_imePending (s : State) :
    (clearImePending s).cpu.imePending = false := rfl

@[simp] theorem State.awake_status (s : State) :
    s.awake.status = .running := rfl

@[simp] theorem State.awake_cpu_halted (s : State) :
    s.awake.cpu.halted = false := rfl

/-- Reading back a register just written. -/
@[simp] theorem State.reg8_setReg8 (s : State) (r : Reg8) (v : Byte) : (s.setReg8 r v).reg8 r = v := by
  cases r <;> rfl

/-- Writing a register leaves every other one. -/
theorem State.reg8_setReg8_ne (s : State) {r q : Reg8} (v : Byte) (h : q ≠ r) :
    (s.setReg8 r v).reg8 q = s.reg8 q := by
  cases r <;> cases q <;> first | rfl | exact absurd rfl h

/-- A write of F leaves every general register. -/
@[simp] theorem State.reg8_setFlagsByte (s : State) (v : Byte) (r : Reg8) :
    (s.setFlagsByte v).reg8 r = s.reg8 r := by
  cases r <;> rfl

/-- A write of the flags leaves every general register. -/
@[simp] theorem State.reg8_setFlags (s : State) (f : Flags) (r : Reg8) :
    (s.setFlags f).reg8 r = s.reg8 r := by
  cases r <;> rfl

/-- The two bytes of a word, put together again, are the word. -/
@[simp] theorem pair_hiByte_loByte (v : Word) : pair (hiByte v) (loByte v) = v := by
  simp only [pair, hiByte, loByte]
  ext i hi
  simp only [BitVec.getElem_append, BitVec.getElem_extractLsb']
  split
  · simp [BitVec.getLsbD_eq_getElem hi]
  · rw [show 8 + (i - 8) = i by omega]; simp [BitVec.getLsbD_eq_getElem hi]

/-- Reading back a register pair just written. -/
@[simp] theorem State.reg16_setReg16 (s : State) (r : Reg16) (v : Word) :
    (s.setReg16 r v).reg16 r = v := by
  cases r <;> first | rfl | exact pair_hiByte_loByte v

/-- Unpacking packed flags gives them back. -/
@[simp] theorem Flags.unpack_pack (f : Flags) : Flags.unpack f.pack = f := by
  rcases f with ⟨z, n, h, c⟩
  cases z <;> cases n <;> cases h <;> cases c <;> rfl

/-- The low nibble of packed flags is 0. -/
@[simp] theorem Flags.pack_and (f : Flags) : f.pack &&& 0xF0 = f.pack := by
  rcases f with ⟨z, n, h, c⟩
  cases z <;> cases n <;> cases h <;> cases c <;> rfl

/-- F after a write of the flags. -/
@[simp] theorem State.setFlags_cpu_f (s : State) (f : Flags) : (s.setFlags f).cpu.f = f.pack :=
  f.pack_and

/-- Reading back flags just written. -/
@[simp] theorem State.flags_setFlags (s : State) (f : Flags) : (s.setFlags f).flags = f := by
  simp [State.flags]

end Sys2Proof.Machine
end

