-- ==== Sys2Proof/Laws/Bus.lean ====
section
/-! SUPPORT. The bus: who owns an address, what a read does, what a write changes. -/

namespace Sys2Proof.Machine

/-- What holds of both branches holds of the choice. -/
theorem of_ite {α : Type} {c : Prop} [Decidable c] {P : α → Prop} {x y : α} (hx : c → P x)
    (hy : ¬c → P y) : P (if c then x else y) := by
  by_cases h : c
  · rw [if_pos h]
    exact hx h
  · rw [if_neg h]
    exact hy h

/-- A colour-mode video register is met only where it refuses (R87). -/
theorem ioReg_ne_cgbVideo {p : Params} (h : NoneRefused p) (off : Nat) :
    ioReg p off ≠ .cgbVideo := by
  have hb : ∀ (l : List (Nat × IoReg)), (∀ c ∈ l, c.2 ≠ .cgbVideo) → ∀ r, lookupCell l off = some r →
      r ≠ .cgbVideo := by
    intro l hl r
    induction l with
    | nil => simp [lookupCell]
    | cons c rest ih =>
      simp only [lookupCell]
      split
      · rintro ⟨⟩
        exact hl c (by simp)
      · exact ih fun c hc => hl c (by simp [hc])
  unfold ioReg
  split
  · simp
  · split
    · exact hb ioBoth (by decide) _ ‹_›
    · split
      · rcases h with h | h <;> simp_all
      · intro hr
        exact absurd hr (by assumption)
      · simp

theorem NoneRefused.readable {s : State} (h : NoneRefused s.params) (a : Word) : s.Readable a := by
  unfold State.Readable State.locate Machine.locate
  dsimp only
  refine of_ite (P := (· ≠ _)) (fun _ => Location.noConfusion) fun _ => ?_
  refine of_ite (P := (· ≠ _)) (fun _ => Location.noConfusion) fun _ => ?_
  refine of_ite (P := (· ≠ _)) (fun _ => Location.noConfusion) fun _ => ?_
  refine of_ite (P := (· ≠ _)) (fun _ => Location.noConfusion) fun _ => ?_
  refine of_ite (P := (· ≠ _)) (fun _ => Location.noConfusion) fun _ => ?_
  refine of_ite (P := (· ≠ _)) (fun _ => Location.noConfusion) fun _ => ?_
  refine of_ite (P := (· ≠ _)) (fun _ => Location.noConfusion) fun _ => ?_
  refine of_ite (P := (· ≠ _)) (fun _ => Location.noConfusion) fun _ => ?_
  refine of_ite (P := (· ≠ _)) (fun _ hc => ioReg_ne_cgbVideo h _ (Location.io.inj hc)) fun _ => ?_
  exact of_ite (P := (· ≠ _)) (fun _ => Location.noConfusion) fun _ => Location.noConfusion

/-- A bus read that goes on gives the byte at the address, and records at most a warning (R80, R88, R94). -/
theorem busRead_sat (a : Word) (s : State) :
    (busRead a s).Sat fun v t => v = s.peek a ∧ (t = s ∨ t = warn a s) := by
  unfold busRead
  split <;> simp

/-- A bus read goes on where it is not refused. -/
theorem busRead_done {s : State} {a : Word} (hc : s.Readable a) :
    (busRead a s).Done fun v t => v = s.peek a ∧ (t = s ∨ t = warn a s) := by
  unfold busRead
  split
  · exact absurd ‹_› hc
  · exact Res.done_ok ⟨rfl, .inr rfl⟩
  · exact Res.done_ok ⟨rfl, .inl rfl⟩

/-- Which I/O register an address is depends on the parameters alone (R80, R87). -/
theorem locate_io_svbk {p : Params} {v w : BitVec 3} {a : Word} {r : IoReg}
    (h : Machine.locate p v a = .io r) : Machine.locate p w a = .io r := by
  unfold Machine.locate at *
  dsimp only at *
  split_ifs at *
  simp_all

theorem State.locate_io_iff {s t : State} (h : t.params = s.params) {a : Word} {r : IoReg} :
    t.locate a = .io r ↔ s.locate a = .io r := by
  unfold State.locate
  rw [h]
  exact ⟨locate_io_svbk, locate_io_svbk⟩

theorem State.Readable.of_params {s t : State} {a : Word} (hs : s.Readable a) (h : t.params = s.params) :
    t.Readable a := fun e => hs ((State.locate_io_iff h).1 e)

theorem State.Storable.of_params {s t : State} {a : Word} {v : Byte} (hs : s.Storable a v)
    (h : t.params = s.params) : t.Storable a v := by
  refine ⟨hs.1.of_params h, ?_⟩
  rw [h]
  exact hs.2.imp_right fun ⟨h1, h2⟩ => ⟨fun e => h1 ((State.locate_io_iff h).1 e),
    fun e => h2 ((State.locate_io_iff h).1 e)⟩

/-- Nothing below the I/O block is refused (R80, R87). -/
theorem State.readable_of_lt {s : State} {a : Word} (h : a.toNat < 0xFF00) : s.Readable a := by
  unfold State.Readable State.locate Machine.locate
  dsimp only
  split_ifs <;> simp

/-- The bank at 0xD000 is never bank 0, and there are 2 or 8 of them (R83). -/
theorem wramBank_range (p : Params) (v : BitVec 3) :
    1 ≤ wramBank p v ∧ wramBank p v * 0x1000 + 0x1000 ≤ wramSize p.mode := by
  unfold wramBank wramSize
  cases p.mode
  · dsimp only
    omega
  · have := v.isLt
    dsimp only
    split
    · omega
    · rename_i hz
      have : v.toNat ≠ 0 := fun e => hz (BitVec.eq_of_toNat_eq e)
      omega

/-- The address of a location's cell (R80). -/
def cellAddress (bank a : Nat) : Location → Prop
  | .vram i => i + 0x8000 = a ∧ i < 0x2000
  | .oam i => i + 0xFE00 = a ∧ i < 160
  | .hram i => i + 0xFF80 = a ∧ i < 127
  | .wram i => (i + 0xC000 = a ∧ i < 0x1000) ∨
      (i + 0xD000 = bank * 0x1000 + a ∧ 0xD000 ≤ a ∧ a < 0xE000)
  | .ie => a = 0xFFFF
  | _ => True

theorem locate_cellAddress (p : Params) (v : BitVec 3) (a : Word) :
    cellAddress (wramBank p v) a.toNat (Machine.locate p v a) := by
  have ha := a.isLt
  unfold Machine.locate
  dsimp only
  refine of_ite (fun _ => True.intro) fun h1 => ?_
  refine of_ite (fun h2 => ?_) fun h2 => ?_
  · exact ⟨by omega, by omega⟩
  refine of_ite (fun _ => True.intro) fun h3 => ?_
  refine of_ite (fun h4 => .inl ⟨by omega, by omega⟩) fun h4 => ?_
  refine of_ite (fun h5 => .inr ⟨by omega, by omega, by omega⟩) fun h5 => ?_
  refine of_ite (fun _ => True.intro) fun h6 => ?_
  refine of_ite (fun h7 => ⟨by omega, by omega⟩) fun h7 => ?_
  refine of_ite (fun _ => True.intro) fun h8 => ?_
  refine of_ite (fun _ => True.intro) fun h9 => ?_
  refine of_ite (fun h10 => ⟨by omega, by omega⟩) fun h10 => ?_
  exact (by omega : a.toNat = 0xFFFF)

/-- Switching the work-RAM bank moves only 0xD000-0xDFFF (R83). -/
theorem locate_svbk (p : Params) (v w : BitVec 3) {a : Word} (h : a.toNat < 0xD000 ∨ 0xE000 ≤ a.toNat) :
    Machine.locate p v a = Machine.locate p w a := by
  unfold Machine.locate
  simp only
  rcases h with h | h
  · simp only [h, if_true]
  · simp only [Nat.not_lt.2 h, if_false]

theorem programSide_params {s t : State} (h : t.programSide = s.programSide) : t.params = s.params :=
  congrArg (fun s => s.params) h

theorem programSide_cpu {s t : State} (h : t.programSide = s.programSide) : t.cpu = s.cpu :=
  congrArg (fun s => s.cpu) h

theorem programSide_dev {s t : State} (h : t.programSide = s.programSide) : t.dev = s.dev :=
  congrArg (fun s => s.dev) h

theorem programSide_ie {s t : State} (h : t.programSide = s.programSide) : t.irq.ie = s.irq.ie :=
  congrArg (fun s => s.irq.ie) h

theorem programSide_wram {s t : State} (h : t.programSide = s.programSide) : t.mem.wram = s.mem.wram :=
  congrArg (fun s => s.mem.wram) h

theorem programSide_hram {s t : State} (h : t.programSide = s.programSide) : t.mem.hram = s.mem.hram :=
  congrArg (fun s => s.mem.hram) h

theorem programSide_svbk {s t : State} (h : t.programSide = s.programSide) : t.mem.svbk = s.mem.svbk :=
  congrArg (fun s => s.mem.svbk) h

theorem programSide_lcdc {s t : State} (h : t.programSide = s.programSide) : t.lcd.lcdc = s.lcd.lcdc :=
  congrArg (fun s => s.lcd.lcdc) h

theorem programSide_locate {s t : State} (h : t.programSide = s.programSide) (a : Word) :
    t.locate a = s.locate a := by
  unfold State.locate
  rw [programSide_params h, programSide_svbk h]

/-- A byte no device moves reads as before when only devices moved. -/
theorem peek_eq_of_program {s t : State} (h : t.programSide = s.programSide)
    (hoam : s.dma.active = false → t.mem.oam = s.mem.oam)
    (hvram : s.HdmaRests → t.mem.vram = s.mem.vram) {a : Word} (ha : s.StillByte a) :
    t.peek a = s.peek a := by
  unfold State.peek
  rw [programSide_locate h]
  unfold State.StillByte at ha
  cases hl : s.locate a <;> rw [hl] at ha <;> simp only [State.byteAt]
  · rw [programSide_dev h]
  · rw [hvram ha]
  · rw [programSide_wram h]
  · rw [hoam ha]
  · exact ha.elim
  · rw [programSide_hram h]
  · rw [programSide_ie h]

/-- The I/O block's registers are at 0xFF00 and their offset (R80). -/
theorem State.locate_io (s : State) {n : Nat} (hn : n < 0x80) :
    s.locate (BitVec.ofNat 16 (0xFF00 + n)) = .io (ioReg s.params n) := by
  have h : (BitVec.ofNat 16 (0xFF00 + n)).toNat = 0xFF00 + n := by
    rw [BitVec.toNat_ofNat]
    omega
  unfold State.locate Machine.locate
  simp (disch := omega) only [h, if_pos, if_neg, Nat.add_sub_cancel_left]

/-- The cartridge below 0x8000 (R81). -/
theorem State.locate_cart_low (s : State) {a : Word} (h : a.toNat < 0x8000) :
    s.locate a = .cart := by
  unfold State.locate Machine.locate
  simp (disch := omega) only [if_pos]

/-- Video RAM (R82). -/
theorem State.locate_vram (s : State) {a : Word} (h : 0x8000 ≤ a.toNat ∧ a.toNat < 0xA000) :
    s.locate a = .vram (a.toNat - 0x8000) := by
  unfold State.locate Machine.locate
  simp (disch := omega) only [if_pos, if_neg]

/-- The cartridge at 0xA000-0xBFFF (R81). -/
theorem State.locate_cart_high (s : State) {a : Word} (h : 0xA000 ≤ a.toNat ∧ a.toNat < 0xC000) :
    s.locate a = .cart := by
  unfold State.locate Machine.locate
  simp (disch := omega) only [if_pos, if_neg]

/-- Work RAM bank 0 (R83). -/
theorem State.locate_wram (s : State) {a : Word} (h : 0xC000 ≤ a.toNat ∧ a.toNat < 0xD000) :
    s.locate a = .wram (a.toNat - 0xC000) := by
  unfold State.locate Machine.locate
  simp (disch := omega) only [if_pos, if_neg]

/-- Banked work RAM (R83). -/
theorem State.locate_wramBank (s : State) {a : Word} (h : 0xD000 ≤ a.toNat ∧ a.toNat < 0xE000) :
    s.locate a = .wram (wramBank s.params s.mem.svbk * 0x1000 + (a.toNat - 0xD000)) := by
  unfold State.locate Machine.locate
  simp (disch := omega) only [if_pos, if_neg]

/-- The echo range (R84). -/
theorem State.locate_echo (s : State) {a : Word} (h : 0xE000 ≤ a.toNat ∧ a.toNat < 0xFE00) :
    s.locate a = .zero := by
  unfold State.locate Machine.locate
  simp (disch := omega) only [if_pos, if_neg]

/-- OAM (R85). -/
theorem State.locate_oam (s : State) {a : Word} (h : 0xFE00 ≤ a.toNat ∧ a.toNat < 0xFEA0) :
    s.locate a = .oam (a.toNat - 0xFE00) := by
  unfold State.locate Machine.locate
  simp (disch := omega) only [if_pos, if_neg]

/-- The unmapped range (R86). -/
theorem State.locate_unmapped (s : State) {a : Word} (h : 0xFEA0 ≤ a.toNat ∧ a.toNat < 0xFF00) :
    s.locate a = .zero := by
  unfold State.locate Machine.locate
  simp (disch := omega) only [if_pos, if_neg]

/-- High RAM (R89). -/
theorem State.locate_hram (s : State) {a : Word} (h : 0xFF80 ≤ a.toNat ∧ a.toNat < 0xFFFF) :
    s.locate a = .hram (a.toNat - 0xFF80) := by
  unfold State.locate Machine.locate
  simp (disch := omega) only [if_pos, if_neg]

/-- IE (R90). -/
theorem State.locate_ie (s : State) : s.locate 0xFFFF = .ie := rfl

theorem lookupCell_of_mem {l : List (Nat × IoReg)} (hl : (l.map Prod.fst).Nodup) {n : Nat} {r : IoReg}
    (h : (n, r) ∈ l) : lookupCell l n = some r := by
  induction l with
  | nil => simp at h
  | cons c rest ih =>
    simp only [List.map_cons, List.nodup_cons] at hl
    simp only [lookupCell]
    rcases List.mem_cons.1 h with rfl | h
    · rw [if_pos rfl]
    · have hc : c.1 ≠ n := fun e => hl.1 (e ▸ List.mem_map_of_mem (f := Prod.fst) h)
      rw [if_neg hc, ih hl.2 h]

/-- A register both modes have is found at its offset, whatever the parameters (R87). -/
theorem State.locate_ioBoth (s : State) {n : Nat} {r : IoReg} (h : (n, r) ∈ ioBoth) :
    s.locate (BitVec.ofNat 16 (0xFF00 + n)) = .io r := by
  have hn : n < 0x80 ∧ ¬(0x10 ≤ n ∧ n ≤ 0x3F) :=
    (by decide : ∀ c ∈ ioBoth, c.1 < 0x80 ∧ ¬(0x10 ≤ c.1 ∧ c.1 ≤ 0x3F)) _ h
  rw [s.locate_io hn.1]
  unfold ioReg
  rw [if_neg hn.2, lookupCell_of_mem (by decide) h]

/-- A register of CGB mode other than the colour-mode video registers is found at its offset (R87). -/
theorem State.locate_ioCgb (s : State) {n : Nat} {r : IoReg} (h : (n, r) ∈ ioCgb) (hr : r ≠ .cgbVideo)
    (hm : s.params.mode = .cgb) : s.locate (BitVec.ofNat 16 (0xFF00 + n)) = .io r := by
  have hn : n < 0x80 ∧ ¬(0x10 ≤ n ∧ n ≤ 0x3F) ∧ lookupCell ioBoth n = none :=
    (by decide : ∀ c ∈ ioCgb, c.1 < 0x80 ∧ ¬(0x10 ≤ c.1 ∧ c.1 ≤ 0x3F) ∧ lookupCell ioBoth c.1 = none) _ h
  rw [s.locate_io hn.1]
  unfold ioReg
  rw [if_neg hn.2.1, hn.2.2, hm, lookupCell_of_mem (by decide) h]
  cases r <;> first | rfl | exact absurd rfl hr

/-- A read of a register that answers gives its value and changes nothing (R87, R94). -/
theorem busRead_io {s : State} {a : Word} {r : IoReg} (h : s.locate a = .io r) (hc : r ≠ .cgbVideo)
    (hu : r ≠ .unhandled) : busRead a s = .ok (ioValue s a r) s := by
  unfold busRead State.peek
  rw [h]
  cases r <;> first | rfl | exact absurd rfl hc | exact absurd rfl hu

/-- A write of a register is the register's own (R87). -/
theorem busWrite_io {s : State} {a : Word} {r : IoReg} (h : s.locate a = .io r) (v : Byte) :
    busWrite a v s = ioWrite a v s r := by
  unfold busWrite
  rw [h]

/-- A read outside the I/O block gives the byte there and changes nothing (R80, R94). -/
theorem busRead_plain {s : State} {a : Word} (h : ∀ r, s.locate a ≠ .io r) :
    busRead a s = .ok (s.peek a) s := by
  unfold busRead
  split
  · exact absurd ‹_› (h _)
  · exact absurd ‹_› (h _)
  · rfl

end Sys2Proof.Machine
end

