-- ==== Sys2Proof/Laws/Cycle.lean ====
section
/-! SUPPORT. What one machine cycle can do (R184): the lemma of each unit it drives, and of the cycle. -/

namespace Sys2Proof.Machine

theorem and_or_self (x y : BitVec 5) : x &&& (x ||| y) = x := by
  ext i hi
  simp only [BitVec.getElem_and, BitVec.getElem_or]
  cases x[i] <;> rfl

/-- What the devices may do, an HDMA copy included, in `n` ticks. -/
structure Advanced (n : Nat) (s t : State) : Prop where
  program : t.programSide = s.programSide
  status : t.status = s.status
  cycles : t.cycles = s.cycles
  divider : t.timer.div = s.timer.div + BitVec.ofNat 16 n
  requests : s.irq.req &&& t.irq.req = s.irq.req
  events : s.events <+: t.events
  oam : s.dma.active = false → t.mem.oam = s.mem.oam ∧ t.dma = s.dma

/-- What the devices may do in `n` ticks, with video RAM left alone while HDMA rests. -/
structure Moved (n : Nat) (s t : State) : Prop extends Advanced n s t where
  vram : s.HdmaRests → t.mem.vram = s.mem.vram ∧ t.hdma = s.hdma

theorem Advanced.refl (s : State) : Advanced 0 s s :=
  ⟨rfl, rfl, rfl, by simp, by simp, List.prefix_rfl, fun _ => ⟨rfl, rfl⟩⟩

theorem Moved.refl (s : State) : Moved 0 s s := ⟨Advanced.refl s, fun _ => ⟨rfl, rfl⟩⟩

theorem Advanced.trans {m n : Nat} {s t u : State} (h : Advanced m s t) (k : Advanced n t u) :
    Advanced (m + n) s u where
  program := k.program.trans h.program
  status := k.status.trans h.status
  cycles := k.cycles.trans h.cycles
  divider := by rw [k.divider, h.divider, BitVec.add_assoc, BitVec.ofNat_add]
  requests := by
    have hk := k.requests
    have hh := h.requests
    rw [← hh, BitVec.and_assoc, hk]
  events := h.events.trans k.events
  oam ha := by
    obtain ⟨ho, hd⟩ := h.oam ha
    obtain ⟨ho', hd'⟩ := k.oam (by rw [hd]; exact ha)
    exact ⟨ho'.trans ho, hd'.trans hd⟩

/-- HDMA goes on resting. -/
theorem Moved.rests {n : Nat} {s t : State} (h : Moved n s t) (hr : s.HdmaRests) : t.HdmaRests := by
  unfold State.HdmaRests at *
  rw [(h.vram hr).2, programSide_params h.program]
  exact hr

theorem Moved.trans {m n : Nat} {s t u : State} (h : Moved m s t) (k : Moved n t u) :
    Moved (m + n) s u where
  toAdvanced := h.toAdvanced.trans k.toAdvanced
  vram hr := by
    obtain ⟨hv, hd⟩ := h.vram hr
    obtain ⟨hv', hd'⟩ := k.vram (h.rests hr)
    exact ⟨hv'.trans hv, hd'.trans hd⟩

/-- A part that answers what the state already was, but for the PPU's, pixel pipeline's and framebuffer's
own fields and the events it adds. -/
theorem Moved.of_eq {s t : State} (program : t.programSide = s.programSide) (status : t.status = s.status)
    (cycles : t.cycles = s.cycles) (timer : t.timer = s.timer)
    (req : s.irq.req &&& t.irq.req = s.irq.req) (events : s.events <+: t.events)
    (dma : t.dma = s.dma) (hdma : t.hdma = s.hdma) (oam : t.mem.oam = s.mem.oam)
    (vram : t.mem.vram = s.mem.vram) : Moved 0 s t :=
  ⟨⟨program, status, cycles, by simp [timer], req, events, fun _ => ⟨oam, dma⟩⟩, fun _ => ⟨vram, hdma⟩⟩

theorem moved_warn (a : Word) (s : State) : Moved 0 s (warn a s) :=
  .of_eq rfl rfl rfl rfl (by simp) (by simp) rfl rfl rfl rfl

theorem moved_request (k : Nat) (s : State) : Moved 0 s (request k s) :=
  .of_eq rfl rfl rfl rfl (by simp [and_or_self]) List.prefix_rfl rfl rfl rfl rfl

theorem busRead_moved (a : Word) (s : State) : (busRead a s).Sat fun _ t => Moved 0 s t := by
  refine (busRead_sat a s).mono fun v t ⟨_, ht⟩ => ?_
  rcases ht with rfl | rfl
  · exact Moved.refl _
  · exact moved_warn a s

/-- The timer's tick (R441): the divider advances by one. -/
theorem timerTick_moved (s : State) : Moved 1 s (timerTick s) := by
  unfold timerTick
  dsimp only
  split
  · split
    · exact ⟨⟨rfl, rfl, rfl, rfl, by simp [and_or_self], List.prefix_rfl, fun _ => ⟨rfl, rfl⟩⟩,
        fun _ => ⟨rfl, rfl⟩⟩
    · exact ⟨⟨rfl, rfl, rfl, rfl, by simp, List.prefix_rfl, fun _ => ⟨rfl, rfl⟩⟩, fun _ => ⟨rfl, rfl⟩⟩
  · exact ⟨⟨rfl, rfl, rfl, rfl, by simp, List.prefix_rfl, fun _ => ⟨rfl, rfl⟩⟩, fun _ => ⟨rfl, rfl⟩⟩

/-- One HDMA byte (R478). -/
theorem hdmaCopyStep_advanced (s : State) : (hdmaCopyStep s).Sat fun _ t => Advanced 0 s t := by
  unfold hdmaCopyStep
  refine (busRead_moved _ s).andThen fun v t ht => ?_
  split
  · refine Advanced.trans (n := 0) ht.toAdvanced ?_
    exact ⟨rfl, rfl, rfl, by simp, by simp, List.prefix_rfl, fun _ => ⟨rfl, rfl⟩⟩
  · simp

theorem hdmaCopy_advanced (n : Nat) (s : State) :
    (Res.repeat hdmaCopyStep n s).Sat fun _ t => Advanced 0 s t :=
  Res.sat_repeat (P := fun _ => Advanced 0) Advanced.refl
    (fun _ s => (hdmaCopyStep_advanced s).mono fun _ _ ht _ hu => ht.trans hu) n s

/-- The HBlank block (R475) copies nothing while HDMA rests. -/
theorem hdmaHblankBlock_moved (s : State) : (hdmaHblankBlock s).Sat fun _ t => Moved 0 s t := by
  unfold hdmaHblankBlock
  split
  · refine (hdmaCopy_advanced 16 s).mono fun _ t ht => ⟨ht, fun hr => ?_⟩
    simp_all [State.HdmaRests]
  · exact Moved.refl s

theorem statRequest_moved (bit : Nat) (s : State) : Moved 0 s (statRequest bit s) := by
  unfold statRequest
  split
  · exact moved_request 1 s
  · exact Moved.refl s

theorem updateCoincidence_moved (s : State) : Moved 0 s (updateCoincidence s) := by
  unfold updateCoincidence
  dsimp only
  split
  · exact .of_eq rfl rfl rfl rfl (by simp [and_or_self]) List.prefix_rfl rfl rfl rfl rfl
  · exact .of_eq rfl rfl rfl rfl (by simp) List.prefix_rfl rfl rfl rfl rfl

theorem modeEntry_moved (m : PpuMode) (s : State) : (modeEntry m s).Sat fun _ t => Moved 0 s t := by
  cases m with
  | hblank =>
    refine (hdmaHblankBlock_moved (statRequest 3 s)).mono fun _ t ht => ?_
    exact Moved.trans (n := 0) (statRequest_moved 3 s) ht
  | vblank =>
    refine Moved.trans (n := 0) ((moved_request 0 s).trans (statRequest_moved 4 (request 0 s))) ?_
    exact .of_eq rfl rfl rfl rfl (by simp [frameComplete]) (by simp [frameComplete]) rfl rfl rfl rfl
  | oamScan => exact statRequest_moved 5 s
  | transfer => exact .of_eq rfl rfl rfl rfl (by simp [startTransfer]) List.prefix_rfl rfl rfl rfl rfl

/-- A mode's entry (R500). -/
theorem enterMode_moved (m : PpuMode) (s : State) : (enterMode m s).Sat fun _ t => Moved 0 s t := by
  unfold enterMode
  refine (modeEntry_moved m _).andThen fun _ t ht => ?_
  refine Moved.trans (n := 0) (Moved.trans (n := 0) ?_ ht) (updateCoincidence_moved t)
  exact .of_eq rfl rfl rfl rfl (by simp) List.prefix_rfl rfl rfl rfl rfl

theorem endLine_moved (s : State) : (endLine s).Sat fun _ t => Moved 0 s t := by
  unfold endLine
  dsimp only
  split
  · refine (enterMode_moved _ _).mono fun _ t ht => Moved.trans (n := 0) ?_ ht
    exact .of_eq rfl rfl rfl rfl (by simp) List.prefix_rfl rfl rfl rfl rfl
  · refine (enterMode_moved _ _).mono fun _ t ht => Moved.trans (n := 0) ?_ ht
    exact .of_eq rfl rfl rfl rfl (by simp) List.prefix_rfl rfl rfl rfl rfl

theorem endVblankLine_moved (s : State) : (endVblankLine s).Sat fun _ t => Moved 0 s t := by
  unfold endVblankLine
  dsimp only
  split
  · refine (enterMode_moved _ _).mono fun _ t ht => Moved.trans (n := 0) ?_ ht
    exact .of_eq rfl rfl rfl rfl (by simp) List.prefix_rfl rfl rfl rfl rfl
  · refine Moved.trans (n := 0) ?_ (updateCoincidence_moved _)
    exact .of_eq rfl rfl rfl rfl (by simp) List.prefix_rfl rfl rfl rfl rfl

/-- A fetch step of the pixel pipeline changes only the pipeline and `windowDrawn`. -/
theorem fetchStep_eq (s : State) :
    ∃ p w, fetchStep s = { s with pipe := p, ppu := { s.ppu with windowDrawn := w } } := by
  unfold fetchStep
  split
  · unfold tileStep
    dsimp only
    split
    · exact ⟨_, _, rfl⟩
    · exact ⟨_, s.ppu.windowDrawn, rfl⟩
  · exact ⟨_, s.ppu.windowDrawn, rfl⟩
  · exact ⟨_, s.ppu.windowDrawn, rfl⟩
  · exact ⟨_, s.ppu.windowDrawn, rfl⟩
  · unfold pushStep
    split
    · exact ⟨s.pipe, s.ppu.windowDrawn, rfl⟩
    · exact ⟨_, s.ppu.windowDrawn, rfl⟩

theorem fetchStep_moved (s : State) : Moved 0 s (fetchStep s) := by
  obtain ⟨p, w, h⟩ := fetchStep_eq s
  rw [h]
  exact .of_eq rfl rfl rfl rfl (by simp) List.prefix_rfl rfl rfl rfl rfl

theorem drawPixel_moved (px : Pixel) (s : State) : (drawPixel px s).Sat fun _ t => Moved 0 s t := by
  unfold drawPixel
  dsimp only
  split
  · exact Moved.of_eq rfl rfl rfl rfl (by simp) List.prefix_rfl rfl rfl rfl rfl
  · simp

theorem popStep_moved (s : State) : (popStep s).Sat fun _ t => Moved 0 s t := by
  unfold popStep
  split
  · exact Moved.refl s
  · split
    · dsimp only
      split
      · refine (drawPixel_moved _ _).andThen fun _ t ht => ?_
        refine Moved.trans (n := 0) (Moved.trans (n := 0) ?_ ht) ?_
        · exact .of_eq rfl rfl rfl rfl (by simp) List.prefix_rfl rfl rfl rfl rfl
        · exact .of_eq rfl rfl rfl rfl (by simp) List.prefix_rfl rfl rfl rfl rfl
      · exact Moved.of_eq rfl rfl rfl rfl (by simp) List.prefix_rfl rfl rfl rfl rfl
    · exact Moved.refl s

theorem pipelineTick_moved (s : State) : (pipelineTick s).Sat fun _ t => Moved 0 s t := by
  unfold pipelineTick
  refine (popStep_moved _).mono fun _ t ht => Moved.trans (n := 0) ?_ ht
  split
  · exact fetchStep_moved s
  · exact Moved.refl s

theorem oamScan_moved (s : State) : Moved 0 s (oamScan s) :=
  .of_eq rfl rfl rfl rfl (by simp [oamScan]) List.prefix_rfl rfl rfl rfl rfl

theorem endTransfer_moved (s : State) : (endTransfer s).Sat fun _ t => Moved 0 s t := by
  refine (enterMode_moved _ _).mono fun _ t ht => Moved.trans (n := 0) ?_ ht
  exact .of_eq rfl rfl rfl rfl (by simp) List.prefix_rfl rfl rfl rfl rfl

theorem transferTick_moved (s : State) : (transferTick s).Sat fun _ t => Moved 0 s t := by
  unfold transferTick
  refine (pipelineTick_moved s).andThen fun _ t ht => ?_
  split
  · exact (endTransfer_moved t).mono fun _ u hu => Moved.trans (n := 0) ht hu
  · exact ht

theorem oamScanTick_moved (s : State) : (oamScanTick s).Sat fun _ t => Moved 0 s t := by
  have h : Moved 0 s (if s.ppu.lineTicks = 1 then oamScan s else s) := by
    split
    · exact oamScan_moved s
    · exact Moved.refl s
  unfold oamScanTick
  dsimp only
  generalize (if s.ppu.lineTicks = 1 then oamScan s else s) = t at h ⊢
  split
  · exact (enterMode_moved _ _).mono fun _ u hu => Moved.trans (n := 0) h hu
  · exact h

/-- The PPU's tick (R498). -/
theorem ppuTick_moved (s : State) : (ppuTick s).Sat fun _ t => Moved 0 s t := by
  unfold ppuTick
  dsimp only
  split
  · exact Moved.refl s
  · have h : Moved 0 s { s with ppu := { s.ppu with lineTicks := s.ppu.lineTicks + 1 } } :=
      .of_eq rfl rfl rfl rfl (by simp) List.prefix_rfl rfl rfl rfl rfl
    split
    · exact (oamScanTick_moved _).mono fun _ u hu => Moved.trans (n := 0) h hu
    · exact (transferTick_moved _).mono fun _ u hu => Moved.trans (n := 0) h hu
    · split
      · exact (endLine_moved _).mono fun _ u hu => Moved.trans (n := 0) h hu
      · exact h
    · split
      · exact (endVblankLine_moved _).mono fun _ u hu => Moved.trans (n := 0) h hu
      · exact h

/-- One tick of the timer and the PPU (R184). -/
theorem tick_moved (s : State) : (tick s).Sat fun _ t => Moved 1 s t :=
  (ppuTick_moved _).mono fun _ _ ht => (timerTick_moved s).trans ht

theorem ticks_moved (n : Nat) (s : State) : (Res.repeat tick n s).Sat fun _ t => Moved n s t :=
  Res.sat_repeat Moved.refl
    (fun n s => (tick_moved s).mono fun _ _ ht u hu => by
      have := ht.trans hu
      rwa [Nat.add_comm] at this) n s

/-- The DMA step (R462) does nothing while no OAM DMA is active. -/
theorem dmaStep_moved (s : State) : (dmaStep s).Sat fun _ t => Moved 0 s t := by
  unfold dmaStep
  split
  · exact Moved.refl s
  · rename_i ha
    split
    · exact ⟨⟨rfl, rfl, rfl, by simp, by simp, List.prefix_rfl, fun h => by simp [h] at ha⟩,
        fun _ => ⟨rfl, rfl⟩⟩
    · refine (busRead_sat _ s).andThen fun v t ⟨_, ht⟩ => ?_
      have hm : Moved 0 s t := by
        rcases ht with rfl | rfl
        · exact Moved.refl _
        · exact moved_warn _ s
      have hd : t.dma = s.dma := by rcases ht with rfl | rfl <;> rfl
      split
      · refine Moved.trans (n := 0) hm ?_
        exact ⟨⟨rfl, rfl, rfl, by simp, by simp, List.prefix_rfl, fun h => by simp [← hd, h] at ha⟩,
          fun _ => ⟨rfl, rfl⟩⟩
      · simp

/-- Four ticks and a DMA step, with the count moved on, are one machine cycle of a claim. -/
theorem Moved.elapsed {s t : State} (h : Moved 4 { s with cycles := s.cycles + 1 } t) : Elapsed 1 s t where
  cycles := h.cycles
  divider := h.divider
  cpu := programSide_cpu h.program
  program := h.program
  status := h.status
  requests := h.requests
  events := h.events
  oam := h.oam
  vram := h.vram
  bytes a ha := peek_eq_of_program (s := { s with cycles := s.cycles + 1 }) h.program
    (fun x => (h.oam x).1) (fun x => (h.vram x).1) ha
  none h0 := absurd h0 (by decide)

/-- A machine cycle (R184): where it goes on, one cycle elapsed. -/
theorem cycle_elapsed (s : State) : (cycle s).Sat fun _ t => Elapsed 1 s t :=
  (ticks_moved 4 _).andThen fun _ t ht =>
    (dmaStep_moved t).mono fun _ _ hu => Moved.elapsed (ht.trans hu)

theorem Elapsed.refl (s : State) : Elapsed 0 s s where
  cycles := rfl
  divider := by simp
  cpu := rfl
  program := rfl
  status := rfl
  requests := by simp
  events := List.prefix_rfl
  oam _ := ⟨rfl, rfl⟩
  vram _ := ⟨rfl, rfl⟩
  bytes _ _ := rfl
  none _ := rfl

/-- HDMA goes on resting. -/
theorem Elapsed.rests {n : Nat} {s t : State} (h : Elapsed n s t) (hr : s.HdmaRests) :
    t.HdmaRests := by
  unfold State.HdmaRests at *
  rw [(h.vram hr).2, programSide_params h.program]
  exact hr

/-- A byte no device moves stays one. -/
theorem Elapsed.still {n : Nat} {s t : State} (h : Elapsed n s t) {a : Word} (ha : s.StillByte a) :
    t.StillByte a := by
  unfold State.StillByte at *
  rw [programSide_locate h.program]
  cases hl : s.locate a <;> rw [hl] at ha <;> simp only [State.StillAt] at *
  · exact h.rests ha
  · rw [(h.oam ha).2]
    exact ha

theorem Elapsed.trans {m n : Nat} {s t u : State} (h : Elapsed m s t) (k : Elapsed n t u) :
    Elapsed (m + n) s u where
  cycles := by rw [k.cycles, h.cycles, Nat.add_assoc]
  divider := by rw [k.divider, h.divider, BitVec.add_assoc, ← BitVec.ofNat_add, Nat.mul_add]
  cpu := k.cpu.trans h.cpu
  program := k.program.trans h.program
  status := k.status.trans h.status
  requests := by
    have hk := k.requests
    have hh := h.requests
    rw [← hh, BitVec.and_assoc, hk]
  events := h.events.trans k.events
  oam ha := by
    obtain ⟨ho, hd⟩ := h.oam ha
    obtain ⟨ho', hd'⟩ := k.oam (by rw [hd]; exact ha)
    exact ⟨ho'.trans ho, hd'.trans hd⟩
  vram hr := by
    obtain ⟨hv, hd⟩ := h.vram hr
    obtain ⟨hv', hd'⟩ := k.vram (h.rests hr)
    exact ⟨hv'.trans hv, hd'.trans hd⟩
  bytes a ha := (k.bytes a (h.still ha)).trans (h.bytes a ha)
  none h0 := (k.none (by omega)).trans (h.none (by omega))

/-- A recorded warning before the cycles counts as theirs. -/
theorem Elapsed.of_warn {n : Nat} {a : Word} {s t : State} (hn : n ≠ 0) (h : Elapsed n (warn a s) t) :
    Elapsed n s t where
  cycles := h.cycles
  divider := h.divider
  cpu := h.cpu
  program := h.program
  status := h.status
  requests := h.requests
  events := List.IsPrefix.trans (by simp) h.events
  oam := h.oam
  vram := h.vram
  bytes := h.bytes
  none h0 := absurd h0 hn

/-- The devices read no CPU register (R185): the same time passes whatever they hold. -/
theorem Elapsed.withCpu {n : Nat} {s t : State} (h : Elapsed n s t) (c : Cpu) :
    Elapsed n { s with cpu := c } { t with cpu := c } where
  cycles := h.cycles
  divider := h.divider
  cpu := rfl
  program := congrArg (fun p => { p with cpu := c }) h.program
  status := h.status
  requests := h.requests
  events := h.events
  oam := h.oam
  vram := h.vram
  bytes := h.bytes
  none h0 := by rw [h.none h0]

end Sys2Proof.Machine
end

