-- ==== Sys2Proof/Laws/Live.lean ====
section
/-! SUPPORT. A machine in which no access can be refused and no unit is out of range goes on: no machine
cycle stops it. -/

namespace Sys2Proof.Machine

/-- `Coherent` reads these fields only. -/
theorem Coherent.of_eq {s t : State} (h : Coherent s) (dma : t.dma = s.dma) (hdma : t.hdma.dst = s.hdma.dst)
    (mode : t.lcd.mode = s.lcd.mode) (ly : t.lcd.ly = s.lcd.ly) (pushed : t.pipe.pushedX = s.pipe.pushedX) :
    Coherent t where
  dmaCursor := by rw [dma]; exact h.dmaCursor
  hdmaDst := by rw [hdma]; exact h.hdmaDst
  line := by rw [mode, ly]; exact h.line
  column := by rw [mode, pushed]; exact h.column

/-- The HDMA destination stays in video RAM (R472, R478). -/
theorem vramAddress_range (x : Word) : 0x8000 ≤ (0x8000#16 ||| (x &&& 0x1FFF#16)).toNat ∧
    (0x8000#16 ||| (x &&& 0x1FFF#16)).toNat ≤ 0x9FFF := by
  have h : (0x8000#16 ||| (x &&& 0x1FFF#16)).toNat = 0x8000 + x.toNat % 0x2000 := by
    rw [BitVec.toNat_or, BitVec.toNat_and]
    have e1 : (0x1FFF#16).toNat = 2 ^ 13 - 1 := rfl
    have e2 : (0x8000#16).toNat = 2 ^ 15 * 1 := rfl
    rw [e1, Nat.and_two_pow_sub_one_eq_mod, e2,
      ← Nat.two_pow_add_eq_or_of_lt (by omega : x.toNat % 2 ^ 13 < 2 ^ 15) 1]
    norm_num
  omega

/-- What a live machine is but for its status: no unit is out of range or about to be refused. -/
structure Ready (s : State) : Prop where
  coherent : Coherent s
  neverRefuses : s.NeverRefuses

theorem Live.ready {s : State} (h : Live s) : Ready s := ⟨h.coherent, h.neverRefuses⟩

theorem Ready.live {s : State} (h : Ready s) (hs : s.status = .running) : Live s :=
  ⟨hs, h.neverRefuses, h.coherent⟩

/-- `NeverRefuses` reads these fields only. -/
theorem State.NeverRefuses.of_eq {s t : State} (h : s.NeverRefuses) (params : t.params = s.params)
    (dma : t.dma = s.dma) (hdma : t.hdma = s.hdma) : t.NeverRefuses := by
  unfold State.NeverRefuses
  rw [params, dma, hdma]
  exact h

/-- `Ready` reads these fields only. -/
theorem Ready.of_eq {s t : State} (h : Ready s) (params : t.params = s.params) (dma : t.dma = s.dma)
    (hdma : t.hdma = s.hdma) (mode : t.lcd.mode = s.lcd.mode) (ly : t.lcd.ly = s.lcd.ly)
    (pushed : t.pipe.pushedX = s.pipe.pushedX) : Ready t :=
  ⟨h.coherent.of_eq dma (by rw [hdma]) mode ly pushed, h.neverRefuses.of_eq params dma hdma⟩

/-- One HDMA byte is copied wherever its read is not refused and the destination is video RAM. -/
theorem hdmaCopyStep_done {s : State} (hr : s.Readable s.hdma.src) (hc : Coherent s) :
    (hdmaCopyStep s).Done fun _ t => Coherent t ∧ t.lcd = s.lcd ∧ t.pipe = s.pipe ∧
      t.params = s.params ∧ t.dma = s.dma ∧ t.hdma.src = s.hdma.src + 1 ∧
      t.hdma.remaining = s.hdma.remaining - 1 ∧
      t.hdma.active = (s.hdma.active && decide (s.hdma.remaining - 1 ≠ 0)) := by
  unfold hdmaCopyStep
  refine (busRead_done hr).andThen fun v t ⟨_, ht⟩ => ?_
  have e : t.hdma = s.hdma ∧ t.dma = s.dma ∧ t.lcd = s.lcd ∧ t.pipe = s.pipe ∧ t.params = s.params := by
    rcases ht with rfl | rfl <;> exact ⟨rfl, rfl, rfl, rfl, rfl⟩
  obtain ⟨e1, e2, e3, e4, e5⟩ := e
  have hd := hc.hdmaDst
  rw [← e1] at hd
  rw [if_pos hd]
  refine Res.done_ok ⟨⟨?_, vramAddress_range _, ?_, ?_⟩, e3, e4, e5, e2, ?_, ?_, ?_⟩
  · simpa only [e2] using hc.dmaCursor
  · simpa only [e3] using hc.line
  · simpa only [e3, e4] using hc.column
  · simp only [e1]
  · simp only [e1]
  · simp only [e1]

/-- HDMA bytes are copied where none is refused, or where they lie below the I/O block. -/
theorem hdmaCopy_done : ∀ (n : Nat) {s : State}, Ready s →
    (NoneRefused s.params ∨ s.hdma.src.toNat + n ≤ 0xFF00) →
    (Res.repeat hdmaCopyStep n s).Done fun _ t => Ready t ∧ t.lcd = s.lcd ∧ t.pipe = s.pipe
  | 0, _, h, _ => Res.done_ok ⟨h, rfl, rfl⟩
  | n + 1, s, h, hn => by
    have hr : s.Readable s.hdma.src := by
      rcases hn with hn | hn
      · exact hn.readable _
      · exact State.readable_of_lt (by omega)
    refine (hdmaCopyStep_done hr h.coherent).andThen fun _ t ⟨hc, e1, e2, e3, e4, e5, e6, e7⟩ => ?_
    have hsrc : s.hdma.src.toNat + 1 ≤ 0xFF00 → t.hdma.src.toNat = s.hdma.src.toNat + 1 := by
      intro hs
      rw [e5, BitVec.toNat_add]
      have : (1 : Word).toNat = 1 := rfl
      omega
    refine Res.Done.mono (hdmaCopy_done n ⟨hc, ?_⟩ ?_) fun _ u ⟨h, hl, hp⟩ => ⟨h, hl.trans e1, hp.trans e2⟩
    · rcases h.neverRefuses with hq | ⟨h1, h2⟩
      · exact .inl (by rw [e3]; exact hq)
      · refine .inr ⟨by rw [e4]; exact h1, fun ha => ?_⟩
        rw [e7, Bool.and_eq_true, decide_eq_true_eq] at ha
        have hb := h2 ha.1
        unfold Hdma.BelowIo at *
        rw [hsrc (by omega), e6]
        omega
    · rcases hn with hn | hn
      · exact .inl (by rw [e3]; exact hn)
      · exact .inr (by rw [hsrc (by omega)]; omega)

/-- A STAT request sets bit 1 of the requests where its enable bit is set, and changes nothing else (R500). -/
theorem statRequest_eq (bit : Nat) (s : State) : statRequest bit s = { s with irq := { s.irq with
    req := if s.lcd.statEnables.getLsbD (bit - 3) then s.irq.req ||| 0b00010 else s.irq.req } } := by
  unfold statRequest
  split <;> rfl

/-- The coincidence flag becomes LY = LYC; a rise with its enable bit set is a STAT request (R504). -/
theorem updateCoincidence_eq (s : State) : updateCoincidence s = { s with
    irq := { s.irq with
      req := if (s.lcd.ly == s.lcd.lyc) && !s.lcd.coincidence && s.lcd.statEnables.getLsbD 3 then
        s.irq.req ||| 0b00010 else s.irq.req }
    lcd := { s.lcd with coincidence := s.lcd.ly == s.lcd.lyc } } := by
  unfold updateCoincidence
  dsimp only
  split <;> rfl

/-- A mode's entry goes on, to a ready state in that mode with the same line. -/
theorem enterMode_done (m : PpuMode) {s : State} (hn : s.NeverRefuses)
    (hd : s.dma.active = true → s.dma.index < 160)
    (hv : 0x8000 ≤ s.hdma.dst.toNat ∧ s.hdma.dst.toNat ≤ 0x9FFF)
    (hl : m ≠ .vblank → s.lcd.ly.toNat < 144) :
    (enterMode m s).Done fun _ t => Ready t ∧ t.lcd.mode = m ∧ t.lcd.ly = s.lcd.ly := by
  have finish : ∀ t : State, Ready t → t.lcd.mode = m → t.lcd.ly = s.lcd.ly →
      (Res.ok () (updateCoincidence t)).Done fun _ t => Ready t ∧ t.lcd.mode = m ∧
        t.lcd.ly = s.lcd.ly := by
    intro t hc hm hly
    rw [updateCoincidence_eq]
    exact Res.done_ok ⟨hc.of_eq rfl rfl rfl rfl rfl rfl, hm, hly⟩
  unfold enterMode
  cases m with
  | hblank =>
    obtain ⟨q, hq⟩ : ∃ q, statRequest 3 { s with lcd := { s.lcd with mode := .hblank } } =
        { s with lcd := { s.lcd with mode := .hblank }, irq := q } := ⟨_, statRequest_eq _ _⟩
    have hc : Ready { s with lcd := { s.lcd with mode := .hblank }, irq := q } :=
      ⟨⟨hd, hv, hl, fun h => by simp at h⟩, hn⟩
    have hb : (hdmaHblankBlock { s with lcd := { s.lcd with mode := .hblank }, irq := q }).Done
        fun _ t => Ready t ∧ t.lcd.mode = .hblank ∧ t.lcd.ly = s.lcd.ly := by
      unfold hdmaHblankBlock
      split
      · rename_i ha
        simp only [Bool.and_eq_true] at ha
        refine (hdmaCopy_done 16 hc ?_).mono fun _ t ⟨hc, hlcd, _⟩ => ⟨hc, by rw [hlcd], by rw [hlcd]⟩
        refine hn.imp_right fun ⟨_, h2⟩ => ?_
        have := h2 ha.1.2
        unfold Hdma.BelowIo at this
        show s.hdma.src.toNat + 16 ≤ 0xFF00
        omega
      · exact Res.done_ok ⟨hc, rfl, rfl⟩
    have : modeEntry .hblank { s with lcd := { s.lcd with mode := .hblank } } =
        hdmaHblankBlock { s with lcd := { s.lcd with mode := .hblank }, irq := q } := by
      simp only [modeEntry, hq]
    rw [this]
    exact hb.andThen fun _ t ⟨hc, hm, hly⟩ => finish t hc hm hly
  | vblank =>
    simp only [modeEntry, Res.andThen_ok]
    rw [statRequest_eq]
    exact finish _ ⟨⟨hd, hv, fun h => absurd rfl h, fun h => by simp [frameComplete] at h⟩, hn⟩ rfl rfl
  | oamScan =>
    simp only [modeEntry, Res.andThen_ok]
    rw [statRequest_eq]
    exact finish _ ⟨⟨hd, hv, fun _ => hl (by simp), fun h => by simp at h⟩, hn⟩ rfl rfl
  | transfer =>
    simp only [modeEntry, Res.andThen_ok]
    exact finish _ ⟨⟨hd, hv, fun _ => hl (by simp), fun _ => by simp [startTransfer]⟩, hn⟩ rfl rfl

theorem endLine_done {s : State} (h : Ready s) (hm : s.lcd.mode ≠ .vblank) :
    (endLine s).Done fun _ t => Ready t := by
  have hc := h.coherent
  have hn := h.neverRefuses
  have hl := hc.line hm
  have h1 : (s.lcd.ly + 1).toNat = s.lcd.ly.toNat + 1 := by
    rw [BitVec.toNat_add]
    have : (1 : Byte).toNat = 1 := rfl
    omega
  unfold endLine
  dsimp only
  split
  · refine Res.Done.mono (enterMode_done .vblank ?_ ?_ ?_ ?_) fun _ _ h => h.1
    exacts [hn, hc.dmaCursor, hc.hdmaDst, fun h => absurd rfl h]
  · rename_i h
    refine Res.Done.mono (enterMode_done .oamScan ?_ ?_ ?_ fun _ => ?_) fun _ _ h => h.1
    · exact hn
    · exact hc.dmaCursor
    · exact hc.hdmaDst
    have : (s.lcd.ly + 1).toNat ≠ 144 := fun e => h (BitVec.eq_of_toNat_eq e)
    show (s.lcd.ly + 1).toNat < 144
    omega

theorem endVblankLine_done {s : State} (h : Ready s) (hm : s.lcd.mode = .vblank) :
    (endVblankLine s).Done fun _ t => Ready t := by
  have hc := h.coherent
  have hn := h.neverRefuses
  unfold endVblankLine
  dsimp only
  split
  · refine Res.Done.mono (enterMode_done .oamScan ?_ ?_ ?_ fun _ => ?_) fun _ _ h => h.1
    · exact hn
    · exact hc.dmaCursor
    · exact hc.hdmaDst
    · exact Nat.zero_lt_succ _
  · rw [updateCoincidence_eq]
    exact Res.done_ok ⟨⟨hc.dmaCursor, hc.hdmaDst, fun h => absurd hm h, fun h => by simp [hm] at h⟩, hn⟩

theorem fetchStep_pushedX (s : State) :
    (fetchStep s).pipe.pushedX = s.pipe.pushedX ∧ (fetchStep s).pipe.scxFine = s.pipe.scxFine := by
  unfold fetchStep
  split
  · unfold tileStep fetchWindowTile fetchBackground
    dsimp only
    split <;> exact ⟨rfl, rfl⟩
  · exact ⟨rfl, rfl⟩
  · exact ⟨rfl, rfl⟩
  · exact ⟨rfl, rfl⟩
  · unfold pushStep
    split <;> exact ⟨rfl, rfl⟩

/-- A drawn pixel inside the framebuffer goes on. -/
theorem drawPixel_done {s : State} (px : Pixel) (hl : s.lcd.ly.toNat < 144) (hx : s.pipe.pushedX < 160) :
    (drawPixel px s).Done fun _ t => t.lcd = s.lcd ∧ t.dma = s.dma ∧ t.hdma = s.hdma ∧
      t.params = s.params ∧ t.pipe = { s.pipe with pushedX := s.pipe.pushedX + 1 } := by
  unfold drawPixel
  dsimp only
  rw [if_pos ⟨hl, hx⟩]
  exact Res.done_ok ⟨rfl, rfl, rfl, rfl, rfl⟩

theorem popStep_done {s : State} (hl : s.lcd.ly.toNat < 144) (hx : s.pipe.pushedX < 160) :
    (popStep s).Done fun _ t => t.lcd = s.lcd ∧ t.dma = s.dma ∧ t.hdma = s.hdma ∧
      t.params = s.params ∧ t.pipe.pushedX ≤ 160 := by
  unfold popStep
  split
  · exact Res.done_ok ⟨rfl, rfl, rfl, rfl, by omega⟩
  · split
    · dsimp only
      split
      · refine (drawPixel_done _ (by exact hl) (by exact hx)).andThen fun _ t ⟨h1, h2, h3, h4, h5⟩ => ?_
        exact Res.done_ok ⟨h1, h2, h3, h4, by simp only [h5]; omega⟩
      · exact Res.done_ok ⟨rfl, rfl, rfl, rfl, by dsimp only; omega⟩
    · exact Res.done_ok ⟨rfl, rfl, rfl, rfl, by omega⟩

theorem transferTick_done {s : State} (h : Ready s)
    (hm : s.lcd.mode = .transfer) : (transferTick s).Done fun _ t => Ready t := by
  have hc := h.coherent
  have hn := h.neverRefuses
  unfold transferTick pipelineTick
  have hf : (if s.ppu.lineTicks % 2 = 0 then fetchStep s else s).pipe.pushedX = s.pipe.pushedX ∧
      (if s.ppu.lineTicks % 2 = 0 then fetchStep s else s).lcd = s.lcd ∧
      (if s.ppu.lineTicks % 2 = 0 then fetchStep s else s).dma = s.dma ∧
      (if s.ppu.lineTicks % 2 = 0 then fetchStep s else s).hdma = s.hdma ∧
      (if s.ppu.lineTicks % 2 = 0 then fetchStep s else s).params = s.params := by
    split
    · obtain ⟨p, w, h⟩ := fetchStep_eq s
      exact ⟨(fetchStep_pushedX s).1, by rw [h], by rw [h], by rw [h], by rw [h]⟩
    · exact ⟨rfl, rfl, rfl, rfl, rfl⟩
  generalize (if s.ppu.lineTicks % 2 = 0 then fetchStep s else s) = f at hf ⊢
  obtain ⟨f1, f2, f3, f4, f5⟩ := hf
  have hl : f.lcd.ly.toNat < 144 := by rw [f2]; exact hc.line (by rw [hm]; simp)
  refine (popStep_done hl (by rw [f1]; exact hc.column hm)).andThen fun _ t ⟨h1, h2, h3, h4, h5⟩ => ?_
  have hly : t.lcd.ly.toNat < 144 := by rw [h1]; exact hl
  have hd : t.dma.active = true → t.dma.index < 160 := by rw [h2, f3]; exact hc.dmaCursor
  have hv := hc.hdmaDst
  rw [← f4, ← h3] at hv
  have hnt : t.NeverRefuses := hn.of_eq (h4.trans f5) (h2.trans f3) (h3.trans f4)
  split
  · exact (enterMode_done .hblank (s := { t with pipe := { t.pipe with fifo := [] } }) hnt hd hv
      fun _ => hly).mono fun _ u h => h.1
  · exact Res.done_ok ⟨⟨hd, hv, fun _ => hly, fun _ => by omega⟩, hnt⟩

theorem oamScanTick_done {s : State} (h : Ready s)
    (hm : s.lcd.mode = .oamScan) : (oamScanTick s).Done fun _ t => Ready t := by
  have hf : Ready (if s.ppu.lineTicks = 1 then oamScan s else s) ∧
      (if s.ppu.lineTicks = 1 then oamScan s else s).lcd = s.lcd := by
    split
    · exact ⟨h.of_eq rfl rfl rfl rfl rfl rfl, rfl⟩
    · exact ⟨h, rfl⟩
  unfold oamScanTick
  dsimp only
  generalize (if s.ppu.lineTicks = 1 then oamScan s else s) = f at hf ⊢
  obtain ⟨h', f1⟩ := hf
  split
  · refine (enterMode_done .transfer h'.neverRefuses h'.coherent.dmaCursor
      h'.coherent.hdmaDst fun _ => h'.coherent.line ?_).mono fun _ u h => h.1
    rw [f1, hm]
    simp
  · exact Res.done_ok h'

/-- The PPU's tick goes on. -/
theorem ppuTick_done {s : State} (h : Ready s) : (ppuTick s).Done fun _ t => Ready t := by
  unfold ppuTick
  dsimp only
  split
  · exact Res.done_ok h
  · have h' : Ready { s with ppu := { s.ppu with lineTicks := s.ppu.lineTicks + 1 } } :=
      h.of_eq rfl rfl rfl rfl rfl rfl
    cases hm : s.lcd.mode with
    | oamScan => exact oamScanTick_done h' hm
    | transfer => exact transferTick_done h' hm
    | hblank =>
      dsimp only
      split
      · exact endLine_done h' (by rw [hm]; simp)
      · exact Res.done_ok h'
    | vblank =>
      dsimp only
      split
      · exact endVblankLine_done h' hm
      · exact Res.done_ok h'

theorem timerTick_ready {s : State} (h : Ready s) : Ready (timerTick s) := by
  unfold timerTick
  dsimp only
  split
  · split <;> exact h.of_eq rfl rfl rfl rfl rfl rfl
  · exact h.of_eq rfl rfl rfl rfl rfl rfl

/-- One tick goes on. -/
theorem tick_done {s : State} (h : Ready s) : (tick s).Done fun _ t => Ready t :=
  ppuTick_done (timerTick_ready h)

/-- An OAM DMA's source address (R462), where the page is not that of the I/O registers. -/
theorem dmaSource_readable {s : State} {page : Byte} {i : Nat} (hp : page ≠ 0xFF) (hi : i < 160) :
    s.Readable (BitVec.ofNat 16 (page.toNat * 0x100 + i)) := by
  refine State.readable_of_lt ?_
  have h1 : page.toNat ≠ 255 := fun e => hp (BitVec.eq_of_toNat_eq e)
  have h2 := page.isLt
  rw [BitVec.toNat_ofNat]
  omega

/-- The DMA step goes on. -/
theorem dmaStep_done {s : State} (h : Ready s) : (dmaStep s).Done fun _ t => Ready t := by
  have hc := h.coherent
  unfold dmaStep
  split
  · exact Res.done_ok h
  · rename_i ha
    simp only [Bool.not_eq_true, Bool.not_eq_false'] at ha
    split
    · exact Res.done_ok ⟨⟨hc.dmaCursor, hc.hdmaDst, hc.line, hc.column⟩, h.neverRefuses⟩
    · have hr : s.Readable (BitVec.ofNat 16 (s.dma.page.toNat * 0x100 + s.dma.index)) := by
        rcases h.neverRefuses with hn | ⟨hn, _⟩
        · exact hn.readable _
        · exact dmaSource_readable (hn ha) (hc.dmaCursor ha)
      refine (busRead_done hr).andThen fun v t ⟨_, ht⟩ => ?_
      have e : t.hdma = s.hdma ∧ t.dma = s.dma ∧ t.lcd = s.lcd ∧ t.pipe = s.pipe ∧
          t.params = s.params := by
        rcases ht with rfl | rfl <;> exact ⟨rfl, rfl, rfl, rfl, rfl⟩
      obtain ⟨e1, e2, e3, e4, e5⟩ := e
      have hi : t.dma.index < 160 := by rw [e2]; exact hc.dmaCursor ha
      rw [if_pos hi]
      refine Res.done_ok ⟨⟨fun hx => ?_, ?_, ?_, ?_⟩, ?_⟩
      · simp only [ne_eq, decide_eq_true_eq] at hx ⊢
        omega
      · simpa only [e1] using hc.hdmaDst
      · simpa only [e3] using hc.line
      · simpa only [e3, e4] using hc.column
      · unfold State.NeverRefuses
        simp only [e1, e2, e5]
        exact h.neverRefuses.imp_right fun ⟨h1, h2⟩ => ⟨fun _ => h1 ha, h2⟩

/-- A live machine takes a machine cycle and stays live (R184). -/
theorem cycle_live {s : State} (h : Live s) : (cycle s).Done fun _ t => Live t ∧ Elapsed 1 s t := by
  have hd : (cycle s).Done fun _ t => Ready t :=
    (Res.done_repeat (G := Ready) (fun t ht => tick_done ht) 4 { s with cycles := s.cycles + 1 }
      (h.ready.of_eq rfl rfl rfl rfl rfl rfl)).andThen fun _ t ht => dmaStep_done ht
  exact (hd.and_sat (cycle_elapsed s)).mono fun _ t ⟨hr, he⟩ =>
    ⟨hr.live (he.status.trans h.running), he⟩

end Sys2Proof.Machine
end

