-- ==== Sys2Proof/Laws/Ops.lean ====
section
/-! SUPPORT. The timed accesses and the stack: on a live machine each goes on, and this is all it does. -/

namespace Sys2Proof.Machine

/-- What a write of an I/O register leaves alone. -/
structure IoFrame (r : IoReg) (s u : State) : Prop where
  params : u.params = s.params
  status : u.status = s.status
  cpu : u.cpu = s.cpu
  cycles : u.cycles = s.cycles
  cart : u.dev.cart = s.dev.cart
  ie : u.irq.ie = s.irq.ie
  wram : u.mem.wram = s.mem.wram
  hram : u.mem.hram = s.mem.hram
  svbk : r ≠ .svbk → u.mem.svbk = s.mem.svbk
  oam : s.dma.active = false → u.mem.oam = s.mem.oam
  dma : r ≠ .dma → s.dma.active = false → u.dma = s.dma
  vram : r ≠ .hdma5 → u.mem.vram = s.mem.vram
  hdma : r ≠ .hdma5 → u.hdma.active = s.hdma.active

/-- A write of HDMA5 goes on where nothing is refused (R472). -/
theorem writeHdma5_done {s : State} (h : Live s) (hn : NoneRefused s.params) (v : Byte) :
    (writeHdma5 v s).Done fun _ u => Live u ∧ IoFrame .hdma5 s u := by
  have hc := h.coherent
  have hv : 0x8000 ≤ (latchHdma v s.hdma).dst.toNat ∧ (latchHdma v s.hdma).dst.toNat ≤ 0x9FFF := by
    have := vramAddress_range (pair s.hdma.hdma3 s.hdma.hdma4 &&& 0x1FF0#16)
    rw [BitVec.and_assoc, show (0x1FF0#16 &&& 0x1FFF#16) = 0x1FF0#16 from rfl] at this
    exact this
  unfold writeHdma5
  split
  · exact Res.done_ok ⟨⟨h.running, .inl hn, hc.of_eq rfl rfl rfl rfl rfl⟩,
      ⟨rfl, rfl, rfl, rfl, rfl, rfl, rfl, rfl, fun _ => rfl, fun _ => rfl, fun _ _ => rfl,
        fun h => absurd rfl h, fun h => absurd rfl h⟩⟩
  · split
    · unfold generalCopy
      dsimp only
      have hr : Ready { s with hdma := { latchHdma v s.hdma with hblank := false } } :=
        ⟨⟨hc.dmaCursor, hv, hc.line, hc.column⟩, .inl hn⟩
      refine ((hdmaCopy_done _ hr (.inl hn)).and_sat (hdmaCopy_advanced _ _)).mono
        fun _ u ⟨⟨hr, _⟩, hu⟩ => ⟨hr.live (hu.status.trans h.running), ?_⟩
      · have e1 := programSide_params hu.program
        have e2 := programSide_cpu hu.program
        have e3 := programSide_dev hu.program
        have e4 := programSide_ie hu.program
        have e5 := programSide_wram hu.program
        have e6 := programSide_hram hu.program
        have e7 := programSide_svbk hu.program
        exact
          { params := e1
            status := hu.status
            cpu := e2
            cycles := hu.cycles
            cart := congrArg Devices.cart e3
            ie := e4
            wram := e5
            hram := e6
            svbk := fun _ => e7
            oam := fun x => (hu.oam x).1
            dma := fun _ x => (hu.oam x).2
            vram := fun h => absurd rfl h
            hdma := fun h => absurd rfl h }
    · exact Res.done_ok ⟨⟨h.running, .inl hn, ⟨hc.dmaCursor, hv, hc.line, hc.column⟩⟩,
        ⟨rfl, rfl, rfl, rfl, rfl, rfl, rfl, rfl, fun _ => rfl, fun _ => rfl, fun _ _ => rfl,
          fun h => absurd rfl h, fun h => absurd rfl h⟩⟩

/-- A write of an I/O register that is not refused, and sets no unit to be refused, goes on. -/
theorem ioWrite_done {s : State} (h : Live s) (a : Word) (v : Byte) {r : IoReg} (hr : r ≠ .cgbVideo)
    (hk : NoneRefused s.params ∨ (r = .dma → v ≠ 0xFF) ∧ r ≠ .hdma5) :
    (ioWrite a v s r).Done fun _ u => Live u ∧ IoFrame r s u := by
  have hc := h.coherent
  have hn := h.neverRefuses
  have plain : ∀ u : State, u.status = s.status → u.NeverRefuses → Coherent u → IoFrame r s u →
      (Res.ok () u).Done fun _ u => Live u ∧ IoFrame r s u := fun u h1 h2 h3 h4 =>
    Res.done_ok ⟨⟨h1.trans h.running, h2, h3⟩, h4⟩
  cases r with
  | cgbVideo => exact absurd rfl hr
  | hdma5 =>
    rcases hk with hk | ⟨_, hk⟩
    · exact writeHdma5_done h hk v
    · exact absurd rfl hk
  | dma =>
    refine plain _ rfl ?_ ⟨fun _ => by simp [startOamDma], hc.hdmaDst, hc.line, hc.column⟩ ?_
    · rcases hk with hk | ⟨hk, _⟩
      · exact .inl hk
      · exact hn.imp_right fun ⟨_, h2⟩ => ⟨fun _ => hk rfl, h2⟩
    · exact ⟨rfl, rfl, rfl, rfl, rfl, rfl, rfl, rfl, fun _ => rfl, fun _ => rfl, fun h => absurd rfl h,
        fun _ => rfl, fun _ => rfl⟩
  | svbk =>
    refine plain _ rfl hn (hc.of_eq rfl rfl rfl rfl rfl) ?_
    exact ⟨rfl, rfl, rfl, rfl, rfl, rfl, rfl, rfl, fun h => absurd rfl h, fun _ => rfl, fun _ _ => rfl,
      fun _ => rfl, fun _ => rfl⟩
  | _ =>
    refine plain _ rfl hn (hc.of_eq rfl rfl rfl rfl rfl) ?_
    exact ⟨rfl, rfl, rfl, rfl, rfl, rfl, rfl, rfl, fun _ => rfl, fun _ => rfl, fun _ _ => rfl,
      fun _ => rfl, fun _ => rfl⟩

/-- What a byte write leaves alone, before any machine cycle: the bytes but the stored one, which holds
the value, and which bytes no device moves. -/
structure Wrote (a : Word) (v : Byte) (s u : State) : Prop where
  cpu : u.cpu = s.cpu
  cycles : u.cycles = s.cycles
  params : u.params = s.params
  bytes : ∀ b, s.Untouched a b → u.peek b = s.peek b ∧ u.StillByte b
  stored : s.Keeps a → u.peek a = v ∧ u.StillByte a

/-- Different addresses are different cells: no memory shows a cell twice (R80, R83). -/
theorem State.locate_inj (s : State) {a b : Word} (h : b ≠ a) (hb : s.locate b = s.locate a) :
    s.locate a = .cart ∨ s.locate a = .zero ∨ ∃ r, s.locate a = .io r := by
  have hn : b.toNat ≠ a.toNat := fun e => h (BitVec.eq_of_toNat_eq e)
  have h1 := locate_cellAddress s.params s.mem.svbk a
  have h2 := locate_cellAddress s.params s.mem.svbk b
  have h3 := (wramBank_range s.params s.mem.svbk).1
  unfold State.locate at *
  rw [hb] at h2
  cases hl : Machine.locate s.params s.mem.svbk a <;> rw [hl] at h1 h2 <;>
    simp only [cellAddress] at h1 h2
  case cart => exact .inl rfl
  case zero => exact .inr (.inl rfl)
  case io r => exact .inr (.inr ⟨r, rfl⟩)
  all_goals omega

/-- Where only the I/O side of the state changed, a byte outside the I/O block reads as before. -/
theorem IoFrame.bytes {r : IoReg} {s u : State} (f : IoFrame r s u) {a b : Word}
    (ha : s.locate a = .io r) (hb : s.Untouched a b) : u.peek b = s.peek b ∧ u.StillByte b := by
  obtain ⟨_, hs, hb⟩ := hb
  rw [ha] at hb
  have hloc : u.locate b = s.locate b := by
    by_cases hr : r = .svbk
    · subst hr
      unfold State.locate
      rw [f.params]
      exact locate_svbk _ _ _ hb
    · unfold State.locate
      rw [f.params, f.svbk hr]
  unfold State.StillByte at *
  unfold State.peek
  rw [hloc]
  cases hl : s.locate b with
  | cart => exact ⟨by simp only [State.byteAt, f.cart], trivial⟩
  | zero => exact ⟨rfl, trivial⟩
  | io q => rw [hl] at hs; exact hs.elim
  | ie => exact ⟨f.ie, trivial⟩
  | wram i => exact ⟨by simp only [State.byteAt, f.wram], trivial⟩
  | hram i => exact ⟨by simp only [State.byteAt, f.hram], trivial⟩
  | vram i =>
    have h5 : r ≠ .hdma5 := by
      rintro rfl
      exact hb i hl
    refine ⟨by simp only [State.byteAt, f.vram h5], ?_⟩
    rw [hl] at hs
    simp only [State.StillAt, State.HdmaRests] at hs ⊢
    rw [f.hdma h5, f.params]
    exact hs
  | oam i =>
    have hd : r ≠ .dma := by
      rintro rfl
      exact hb i hl
    rw [hl] at hs
    simp only [State.StillAt] at hs
    refine ⟨by simp only [State.byteAt, f.oam hs], ?_⟩
    simp only [State.StillAt]
    rw [f.dma hd hs]
    exact hs

/-- A plain write: the machine's other parts are as they were. -/
structure PlainWrite (s u : State) : Prop where
  cpu : u.cpu = s.cpu
  cycles : u.cycles = s.cycles
  params : u.params = s.params
  status : u.status = s.status
  svbk : u.mem.svbk = s.mem.svbk
  dma : u.dma = s.dma
  hdma : u.hdma = s.hdma
  lcd : u.lcd = s.lcd
  pipe : u.pipe = s.pipe

/-- A plain write of one location changes what that location holds. -/
theorem PlainWrite.wrote {s u : State} (f : PlainWrite s u) (h : Live s) {a : Word} {v : Byte}
    (same : s.locate a ≠ .zero → (∀ r, s.locate a ≠ .io r) →
      s.locate a ≠ .cart → u.byteAt a (s.locate a) = v)
    (other : ∀ b, b ≠ a → (s.locate a = .cart → s.locate b ≠ .cart) → s.StillAt (s.locate b) →
      u.byteAt b (s.locate b) = s.byteAt b (s.locate b)) : Live u ∧ Wrote a v s u := by
  have hloc : ∀ b, u.locate b = s.locate b := fun b => by
    unfold State.locate
    rw [f.params, f.svbk]
  have hstill : ∀ b, s.StillByte b → u.StillByte b := fun b hb => by
    unfold State.StillByte at *
    rw [hloc]
    cases hl : s.locate b <;> rw [hl] at hb <;> simp only [State.StillAt, State.HdmaRests] at *
    · rw [f.hdma, f.params]
      exact hb
    · rw [f.dma]
      exact hb
  refine ⟨⟨f.status.trans h.running, h.neverRefuses.of_eq f.params f.dma f.hdma, h.coherent.of_eq f.dma (by rw [f.hdma]) (by rw [f.lcd])
    (by rw [f.lcd]) (by rw [f.pipe])⟩, f.cpu, f.cycles, f.params, fun b hb => ⟨?_, hstill b hb.2.1⟩,
    fun hk => ⟨?_, hstill a hk.1⟩⟩
  · unfold State.peek
    rw [hloc]
    refine other b hb.1 (fun ha => ?_) hb.2.1
    have := hb.2.2
    rw [ha] at this
    exact this
  · unfold State.peek
    rw [hloc]
    refine same hk.2.2 (fun r hr => ?_) hk.2.1
    have := hk.1
    unfold State.StillByte at this
    rw [hr] at this
    exact this

/-- A byte write on a live machine goes on where it can be stored (R80): this is all it does. -/
theorem busWrite_done {s : State} (h : Live s) {a : Word} {v : Byte} (hs : s.Storable a v) :
    (busWrite a v s).Done fun _ u => Live u ∧ Wrote a v s u := by
  have inj : ∀ b, b ≠ a → s.locate b = s.locate a → s.locate a = .cart ∨ s.locate a = .zero ∨
      ∃ r, s.locate a = .io r := fun b hb hl => s.locate_inj hb hl
  unfold busWrite
  cases hl : s.locate a with
  | io r =>
    have hr : r ≠ .cgbVideo := fun e => hs.1 (by rw [hl, e])
    have hk : NoneRefused s.params ∨ (r = .dma → v ≠ 0xFF) ∧ r ≠ .hdma5 :=
      hs.2.imp_right fun ⟨h1, h2⟩ => ⟨fun e => h1 (by rw [hl, e]), fun e => h2 (by rw [hl, e])⟩
    refine (ioWrite_done h a v hr hk).mono fun _ u ⟨hu, f⟩ => ⟨hu, f.cpu, f.cycles, f.params, ?_, ?_⟩
    · exact fun b hb => f.bytes hl hb
    · intro hk
      have := hk.1
      unfold State.StillByte at this
      rw [hl] at this
      exact this.elim
  | zero =>
    refine Res.done_ok (PlainWrite.wrote (by constructor <;> rfl) h ?_ ?_)
    · rw [hl]
      exact fun h => absurd rfl h
    · exact fun _ _ _ _ => rfl
  | cart =>
    refine Res.done_ok (PlainWrite.wrote (by constructor <;> rfl) h ?_ ?_)
    · rw [hl]
      exact fun _ _ h => absurd rfl h
    · intro b _ hc hs
      cases hlb : s.locate b <;> first | rfl | exact absurd hlb (hc hl)
  | vram i =>
    refine Res.done_ok (PlainWrite.wrote (by constructor <;> rfl) h ?_ ?_)
    · rw [hl]
      exact fun _ _ _ => Cells.get_set_same _ _ _
    · intro b hb _ hs
      have hi := inj b hb
      rw [hl] at hi
      cases hlb : s.locate b <;> rw [hlb] at hi hs <;> first | rfl | exact hs.elim | skip
      exact Cells.get_set_ne _ _ fun e => by simp [e] at hi
  | wram i =>
    refine Res.done_ok (PlainWrite.wrote (by constructor <;> rfl) h ?_ ?_)
    · rw [hl]
      exact fun _ _ _ => Cells.get_set_same _ _ _
    · intro b hb _ hs
      have hi := inj b hb
      rw [hl] at hi
      cases hlb : s.locate b <;> rw [hlb] at hi hs <;> first | rfl | exact hs.elim | skip
      exact Cells.get_set_ne _ _ fun e => by simp [e] at hi
  | oam i =>
    refine Res.done_ok (PlainWrite.wrote (by constructor <;> rfl) h ?_ ?_)
    · rw [hl]
      exact fun _ _ _ => Cells.get_set_same _ _ _
    · intro b hb _ hs
      have hi := inj b hb
      rw [hl] at hi
      cases hlb : s.locate b <;> rw [hlb] at hi hs <;> first | rfl | exact hs.elim | skip
      exact Cells.get_set_ne _ _ fun e => by simp [e] at hi
  | hram i =>
    refine Res.done_ok (PlainWrite.wrote (by constructor <;> rfl) h ?_ ?_)
    · rw [hl]
      exact fun _ _ _ => Cells.get_set_same _ _ _
    · intro b hb _ hs
      have hi := inj b hb
      rw [hl] at hi
      cases hlb : s.locate b <;> rw [hlb] at hi hs <;> first | rfl | exact hs.elim | skip
      exact Cells.get_set_ne _ _ fun e => by simp [e] at hi
  | ie =>
    refine Res.done_ok (PlainWrite.wrote (by constructor <;> rfl) h ?_ ?_)
    · rw [hl]
      exact fun _ _ _ => rfl
    · intro b hb _ hs
      have hi := inj b hb
      rw [hl] at hi
      cases hlb : s.locate b <;> rw [hlb] at hi hs <;> first | rfl | exact hs.elim | skip
      simp at hi

/-- `idle()` on a live machine (R13). -/
theorem idle_live {s : State} (h : Live s) : (idle s).Done fun _ t => Live t ∧ Elapsed 1 s t :=
  cycle_live h

/-- `rd(a)` on a live machine (R13): it gives the byte as it was before the cycle. -/
theorem rd_live {s : State} (h : Live s) {a : Word} (hr : s.Readable a) :
    (rd a s).Done fun v t => v = s.peek a ∧ Live t ∧ Elapsed 1 s t := by
  unfold rd
  refine (busRead_done hr).andThen fun v u ⟨hv, hu⟩ => ?_
  have hlu : Live u := by
    rcases hu with rfl | rfl
    · exact h
    · exact ⟨h.running, h.neverRefuses, h.coherent.of_eq rfl rfl rfl rfl rfl⟩
  refine (cycle_live hlu).andThen fun _ t ⟨ht, he⟩ => Res.done_ok ⟨hv, ht, ?_⟩
  rcases hu with rfl | rfl
  · exact he
  · exact he.of_warn (by decide)

/-- Internal cycles where they can pass (R185). -/
theorem idles_done {s : State} : ∀ {n : Nat}, s.CanPass n →
    (Res.repeat idle n s).Done fun _ t => (Live s → Live t) ∧ Elapsed n s t
  | 0, _ => Res.done_ok ⟨id, Elapsed.refl s⟩
  | n + 1, h => by
    refine (idle_live (h (by omega))).andThen fun _ t ⟨ht, he⟩ => ?_
    refine (idles_done (n := n) fun _ => ht).mono fun _ u ⟨hu, he'⟩ => ⟨fun _ => hu ht, ?_⟩
    rw [Nat.add_comm]
    exact he.trans he'

theorem Live.canPass {s : State} (h : Live s) (n : Nat) : s.CanPass n := fun _ => h

/-- `pause` where its internal cycles can pass (R189). -/
theorem pause_done {s : State} {g : List Nat} {k : Nat} (h : s.CanPass (g.getD k 0)) :
    (pause g k s).Done fun _ t => (Live s → Live t) ∧ Elapsed (g.getD k 0) s t := idles_done h

/-- `pause` on a live machine (R189). -/
theorem pause_live {s : State} (h : Live s) (g : List Nat) (k : Nat) :
    (pause g k s).Done fun _ t => Live t ∧ Elapsed (g.getD k 0) s t :=
  (pause_done (h.canPass _)).mono fun _ _ ⟨ht, he⟩ => ⟨ht h, he⟩

/-- No internal cycles: nothing happens. -/
@[simp] theorem pause_nil (k : Nat) (s : State) : pause [] k s = .ok () s := rfl

/-- `readThen` on a live machine: the byte as it was before the access's own cycle, then the internal ones. -/
theorem readThen_live {s : State} (h : Live s) {a : Word} (hr : s.Readable a) (g : List Nat) (k : Nat) :
    (readThen g k a s).Done fun v t => v = s.peek a ∧ Live t ∧
      ∃ u, rd a s = .ok (s.peek a) u ∧ Elapsed 1 s u ∧ Elapsed (g.getD k 0) u t := by
  unfold readThen
  obtain ⟨v, u, hrd, rfl, hu, he⟩ := rd_live h hr
  rw [hrd]
  exact (pause_live hu g k).andThen fun _ t ⟨ht, he'⟩ => Res.done_ok ⟨rfl, ht, u, rfl, he, he'⟩

/-- `writeThen` on a live machine: the store, its own cycle and the internal ones. -/
theorem writeThen_live {s : State} (h : Live s) {a : Word} {v : Byte} (hs : s.Storable a v) (g : List Nat)
    (k : Nat) : (writeThen g k a v s).Done fun _ t => Live t ∧ Stored (1 + g.getD k 0) a v s t := by
  unfold writeThen
  obtain ⟨_, u, hw, hu, w⟩ := busWrite_done h hs
  obtain ⟨_, m, hcy, hm, he⟩ := cycle_live hu
  have hwr : wr a v s = .ok () m := by unfold wr; rw [hw]; exact hcy
  rw [hwr]
  refine (pause_live hm g k).mono fun _ t ⟨ht, he'⟩ => ⟨ht, ?_⟩
  have e := he.trans he'
  exact
    { store := ⟨u, hw, e⟩
      cpu := e.cpu.trans w.cpu
      params := (programSide_params e.program).trans w.params
      cycles := by rw [e.cycles, w.cycles]
      bytes := fun b hb => (e.bytes b (w.bytes b hb).2).trans (w.bytes b hb).1
      stored := fun hk => (e.bytes a (w.stored hk).2).trans (w.stored hk).1 }

/-- `wr(a, v)` on a live machine (R13). -/
theorem wr_live {s : State} (h : Live s) {a : Word} {v : Byte} (hs : s.Storable a v) :
    (wr a v s).Done fun _ t => Live t ∧ Stored 1 a v s t := by
  obtain ⟨_, t, hw, ht⟩ := writeThen_live h hs [] 0
  obtain ⟨_, u, hwr, hu⟩ := Res.andThen_eq_ok hw
  cases hu
  exact ⟨_, t, hwr, ht⟩

/-- A change of the CPU's registers leaves a live machine live. -/
theorem Live.withCpu {s : State} (h : Live s) (c : Cpu) : Live { s with cpu := c } :=
  ⟨h.running, h.neverRefuses, h.coherent.of_eq rfl rfl rfl rfl rfl⟩

/-- `imm8()` on a live machine (R13). -/
theorem imm8_live {s : State} (h : Live s) (hr : s.Readable s.cpu.pc) :
    (imm8 s).Done fun v t => v = s.peek s.cpu.pc ∧ Live t ∧
      Elapsed 1 (s.setPc (s.cpu.pc + 1)) t := by
  unfold imm8
  refine (rd_live h hr).andThen fun v t ⟨hv, ht, he⟩ => ?_
  refine Res.done_ok ⟨hv, ht.withCpu _, ?_⟩
  have hx := he.withCpu { s.cpu with pc := s.cpu.pc + 1 }
  have hcpu := he.cpu
  unfold State.setPc
  rw [hcpu]
  exact hx

/-- Half a push (R234). -/
theorem pushByte_live {s : State} (h : Live s) {v : Byte} (hs : s.Storable (s.cpu.sp - 1) v) (g : List Nat)
    (k : Nat) : (pushByte g k v s).Done fun _ t => Live t ∧
      Stored (1 + g.getD k 0) (s.cpu.sp - 1) v (s.setSp (s.cpu.sp - 1)) t :=
  writeThen_live (s := s.setSp (s.cpu.sp - 1)) (h.withCpu _) (hs.of_params rfl) g k

theorem hiByte_eq (w : Word) : hiByte w = BitVec.ofNat 8 (w.toNat / 256) := by
  apply BitVec.eq_of_toNat_eq
  simp [hiByte, Nat.shiftRight_eq_div_pow]

theorem loByte_eq (w : Word) : loByte w = BitVec.ofNat 8 w.toNat := by
  apply BitVec.eq_of_toNat_eq
  simp [loByte]

/-- What can be stored can still be stored after time has passed. -/
theorem State.Storable.elapsed {n : Nat} {s t : State} {a : Word} {v : Byte} (hs : s.Storable a v)
    (he : Elapsed n s t) : t.Storable a v := hs.of_params (programSide_params he.program)

theorem State.Readable.elapsed {n : Nat} {s t : State} {a : Word} (hr : s.Readable a) (he : Elapsed n s t) :
    t.Readable a := hr.of_params (programSide_params he.program)

/-- A result of the byte at an address that could be stored there can be stored there once time has passed: the
one register whose stored value matters, that of OAM DMA, moves with no device. -/
theorem State.Storable.elapsed_peek {n : Nat} {s t : State} {a : Word} {f : Byte → Byte}
    (hs : s.Storable a (f (s.peek a))) (he : Elapsed n s t) : t.Storable a (f (t.peek a)) := by
  have hp := programSide_params he.program
  refine ⟨hs.1.of_params hp, ?_⟩
  rw [hp]
  refine hs.2.imp_right fun ⟨h1, h2⟩ => ⟨fun e => ?_, fun e => h2 ((State.locate_io_iff hp).1 e)⟩
  have e' := (State.locate_io_iff hp).1 e
  have hd : t.dma.reg = s.dma.reg := congrArg (fun x => x.dma.reg) he.program
  have hpk : t.peek a = s.peek a := by
    unfold State.peek
    rw [e, e']
    exact hd
  rw [hpk]
  exact h1 e'

/-- A push (R234): the internal cycles, then the high byte, then the low byte below it. -/
theorem pushWord_live {s : State} (h : Live s) {v : Word} (hp : s.Pushable v) (g : List Nat) :
    (pushWord g v s).Done fun _ t => Live t ∧ ∃ m u, Live m ∧ Elapsed (g.getD 0 0) s m ∧ Live u ∧
      Stored (1 + g.getD 1 0) (s.cpu.sp - 1) (hiByte v) (m.setSp (s.cpu.sp - 1)) u ∧
      Stored (1 + g.getD 2 0) (s.cpu.sp - 2) (loByte v) (u.setSp (s.cpu.sp - 2)) t := by
  unfold pushWord
  refine (pause_live h g 0).andThen fun _ m ⟨hm, he⟩ => ?_
  have hsp : m.cpu.sp = s.cpu.sp := by rw [he.cpu]
  refine (pushByte_live hm (by rw [hiByte_eq, hsp]; exact hp.1.elapsed he) g 1).andThen fun _ u ⟨hu, hs⟩ => ?_
  have e : u.cpu.sp - 1 = s.cpu.sp - 2 := by
    rw [hs.cpu]
    show m.cpu.sp - 1 - 1 = s.cpu.sp - 2
    rw [hsp, BitVec.sub_sub]
    rfl
  have hl : u.Storable (u.cpu.sp - 1) (loByte v) := by
    rw [e, loByte_eq]
    exact (hp.2.elapsed he).of_params hs.params
  refine (pushByte_live hu hl g 2).mono fun _ t ⟨ht, hs'⟩ => ⟨ht, m, u, hm, he, hu, ?_, ?_⟩
  · rw [hsp] at hs
    exact hs
  · rw [e] at hs'
    exact hs'

/-- A register write after cycles is a register write before them. -/
theorem Elapsed.setCpu {n : Nat} {s t : State} (h : Elapsed n s t) (f : Cpu → Cpu) :
    Elapsed n { s with cpu := f s.cpu } { t with cpu := f t.cpu } := by
  rw [h.cpu]
  exact h.withCpu _

/-- Half a pop (R235). -/
theorem popByte_live {s : State} (h : Live s) (hr : s.Readable s.cpu.sp) :
    (popByte s).Done fun v t => v = s.peek s.cpu.sp ∧ Live t ∧
      Elapsed 1 (s.setSp (s.cpu.sp + 1)) t := by
  unfold popByte
  refine (rd_live h hr).andThen fun v t ⟨hv, ht, he⟩ => Res.done_ok ⟨hv, ht.withCpu _, ?_⟩
  exact he.setCpu fun c => { c with sp := c.sp + 1 }

/-- A pop (R235): the internal cycles, then the low byte, then the high byte above it. -/
theorem popWord_live {s : State} (h : Live s) (hp : s.Poppable) (g : List Nat) :
    (popWord g s).Done fun w t => Live t ∧ ∃ m u x, Live m ∧ Elapsed (g.getD 0 0) s m ∧
      popByte m = .ok (m.peek m.cpu.sp) u ∧ Elapsed 1 (m.setSp (m.cpu.sp + 1)) u ∧
      Elapsed (g.getD 1 0) u x ∧ w = pair (x.peek (m.cpu.sp + 1)) (m.peek m.cpu.sp) ∧
      Elapsed (2 + g.getD 1 0 + g.getD 2 0) (m.setSp (m.cpu.sp + 2)) t := by
  unfold popWord
  refine (pause_live h g 0).andThen fun _ m ⟨hm, he0⟩ => ?_
  have hsp0 : m.cpu.sp = s.cpu.sp := by rw [he0.cpu]
  obtain ⟨lo, u, hr, rfl, hu, he⟩ := popByte_live hm (by rw [hsp0]; exact hp.1.elapsed he0)
  rw [hr]
  refine (pause_live hu g 1).andThen fun _ x ⟨hx, he1⟩ => ?_
  have hsp : x.cpu.sp = m.cpu.sp + 1 := by rw [he1.cpu, he.cpu]; rfl
  have hr2 : x.Readable x.cpu.sp := by
    rw [hsp, hsp0]
    exact ((hp.2.elapsed he0).of_params ((programSide_params he.program).trans rfl)).elapsed he1
  refine (popByte_live hx hr2).andThen fun hi y ⟨hhi, hy, he2⟩ => ?_
  refine (pause_live hy g 2).andThen fun _ t ⟨ht, he3⟩ =>
    Res.done_ok ⟨ht, m, u, x, hm, he0, hr, he, he1, by rw [hhi, hsp], ?_⟩
  have e1 := (((he.trans he1).setCpu fun c => { c with sp := c.sp + 1 }).trans he2).trans he3
  have : m.setSp (m.cpu.sp + 2) =
      { m.setSp (m.cpu.sp + 1) with
        cpu := { (m.setSp (m.cpu.sp + 1)).cpu with sp := (m.setSp (m.cpu.sp + 1)).cpu.sp + 1 } } := by
    unfold State.setSp
    rw [show m.cpu.sp + 2 = m.cpu.sp + 1 + 1 by rw [BitVec.add_assoc]; rfl]
  rw [this, show 2 + g.getD 1 0 + g.getD 2 0 = 1 + g.getD 1 0 + 1 + g.getD 2 0 by omega]
  exact e1

end Sys2Proof.Machine
end

