-- ==== Sys2Proof/Laws/Engine.lean ====
section
/-! SUPPORT. Fetching an instruction on a live machine, and the parts of the step around it. -/

namespace Sys2Proof.Machine

/-- Time passes over listed bytes without changing them. -/
theorem State.HoldsBytes.elapsed {n : Nat} {s t : State} (he : Elapsed n s t) :
    ∀ (bs : List Byte) (a : Word), s.HoldsBytes a bs → t.HoldsBytes a bs
  | [], _, _ => trivial
  | _ :: rest, a, ⟨h1, h2, h3⟩ =>
    ⟨(he.bytes a h2).trans h1, he.still h2, State.HoldsBytes.elapsed he rest (a + 1) h3⟩

/-- The CPU's registers are no part of memory. -/
theorem State.HoldsBytes.withCpu {s : State} (c : Cpu) :
    ∀ (bs : List Byte) (a : Word), s.HoldsBytes a bs → State.HoldsBytes { s with cpu := c } a bs
  | [], _, _ => trivial
  | _ :: rest, a, ⟨h1, h2, h3⟩ => ⟨h1, h2, State.HoldsBytes.withCpu c rest (a + 1) h3⟩

/-- A byte no device moves is in no I/O register, so that reading it is not refused. -/
theorem State.StillByte.readable {s : State} {a : Word} (h : s.StillByte a) : s.Readable a := by
  intro e
  unfold State.StillByte at h
  rw [e] at h
  exact h

/-- A fetch of listed bytes gives them, one machine cycle each and the internal cycles before each, PC past
them. -/
theorem fetchBytes_live :
    ∀ (bs : List Byte) (g : List Nat) {s : State}, Live s → s.HoldsBytes s.cpu.pc bs →
      (fetchBytes g bs.length s).Done fun l t => l = bs ∧ Live t ∧
        Elapsed (bs.length + (g.take bs.length).sum) (s.setPc (s.cpu.pc + BitVec.ofNat 16 bs.length)) t
  | [], g, s, h, _ => Res.done_ok ⟨rfl, h, by
      have : s.setPc (s.cpu.pc + BitVec.ofNat 16 ([] : List Byte).length) = s := by simp [State.setPc]
      rw [this]
      simpa using Elapsed.refl s⟩
  | v :: rest, g, s, h, hb => by
    unfold fetchBytes
    refine (pause_live h g 0).andThen fun _ m ⟨hm, he0⟩ => ?_
    have hb' := State.HoldsBytes.elapsed he0 _ _ hb
    rw [← he0.cpu] at hb'
    obtain ⟨h1, h2, h3⟩ := hb'
    refine (imm8_live hm h2.readable).andThen fun x t ⟨hx, ht, he⟩ => ?_
    have hpc : t.cpu.pc = m.cpu.pc + 1 := by rw [he.cpu]; rfl
    have hbt : t.HoldsBytes t.cpu.pc rest := by
      rw [hpc]
      exact State.HoldsBytes.elapsed he rest _ (h3.withCpu _)
    refine (fetchBytes_live rest g.tail ht hbt).andThen fun l u ⟨hl, hu, he'⟩ =>
      Res.done_ok ⟨by rw [hx, h1, hl], hu, ?_⟩
    have e := (((he0.setCpu fun c => { c with pc := c.pc + 1 }).trans he).setCpu fun c =>
      { c with pc := c.pc + BitVec.ofNat 16 rest.length }).trans he'
    have hn : g.getD 0 0 + 1 + (rest.length + (g.tail.take rest.length).sum) =
        (v :: rest).length + (g.take (v :: rest).length).sum := by
      cases g <;> simp <;> omega
    have hs : s.setPc (s.cpu.pc + BitVec.ofNat 16 (v :: rest).length) =
        { s.setPc (s.cpu.pc + 1) with
          cpu := { (s.setPc (s.cpu.pc + 1)).cpu with
            pc := (s.setPc (s.cpu.pc + 1)).cpu.pc + BitVec.ofNat 16 rest.length } } := by
      unfold State.setPc
      rw [List.length_cons, Nat.add_comm, BitVec.ofNat_add, ← BitVec.add_assoc]
      rfl
    rw [hs, ← hn]
    exact e

/-- A fetch (R181-R183): the bytes the opcode asks for decode to an instruction, one machine cycle each and the
internal cycles between them. -/
theorem fetch_live {s : State} (h : Live s) {op : Byte} {rest : List Byte} {i : Instr} {left : List Byte}
    (hb : s.HoldsBytes s.cpu.pc (op :: rest)) (hn : fetchedAfterOpcode op = rest.length)
    (hd : decode (op :: rest) = .ok (i, left)) :
    ∃ t, fetch s = .ok i t ∧ Live t ∧
      Elapsed (rest.length + 1 + ((s.cycleLine (.main op)).fetch.take rest.length).sum)
        (s.setPc (s.cpu.pc + BitVec.ofNat 16 (rest.length + 1))) t := by
  obtain ⟨h1, h2, h3⟩ := hb
  obtain ⟨x, m, hi, hx, hm, he⟩ := imm8_live h h2.readable
  have hop : x = op := hx.trans h1
  subst hop
  have hline : m.cycleLine = s.cycleLine := by
    unfold State.cycleLine
    rw [programSide_params he.program]
    rfl
  have hpc : m.cpu.pc = s.cpu.pc + 1 := by rw [he.cpu]; rfl
  have hbm : m.HoldsBytes m.cpu.pc rest := by
    rw [hpc]
    exact State.HoldsBytes.elapsed he rest _ (h3.withCpu _)
  obtain ⟨l, t, hf, rfl, ht, he'⟩ := fetchBytes_live rest (m.cycleLine (.main x)).fetch hm hbm
  refine ⟨t, ?_, ht, ?_⟩
  · unfold fetch
    rw [hi]
    simp only [Res.andThen_ok]
    rw [hn, hf]
    simp only [Res.andThen_ok, hd]
  · have e := (he.setCpu fun c => { c with pc := c.pc + BitVec.ofNat 16 l.length }).trans he'
    have hs : s.setPc (s.cpu.pc + BitVec.ofNat 16 (l.length + 1)) =
        { s.setPc (s.cpu.pc + 1) with
          cpu := { (s.setPc (s.cpu.pc + 1)).cpu with
            pc := (s.setPc (s.cpu.pc + 1)).cpu.pc + BitVec.ofNat 16 l.length } } := by
      unfold State.setPc
      rw [Nat.add_comm, BitVec.ofNat_add, ← BitVec.add_assoc]
      rfl
    rw [hs, Nat.add_comm l.length 1, Nat.add_assoc, ← hline]
    exact e

end Sys2Proof.Machine
end

