-- ==== Sys2Proof/Laws/Rows.lean ====
section
/-! SUPPORT. What the row tables of the claims stand for: for each table, that its rows read as their
instructions, and that its instructions are one shared operation each. -/

namespace Sys2Proof.Claims

open Sys2Proof.Machine

/-- No default line puts an internal cycle between fetched bytes (R189). -/
theorem defaultLine_fetch (o : Opcode) : (defaultLine o).fetch = [] := by
  unfold defaultLine
  split
  · rfl
  · split_ifs <;> rfl

/-- With the default `CYCLE_TABLE` every line is the default's. -/
theorem cycleLine_default {s : State} (h : s.params.cycleTable = []) (o : Opcode) :
    s.cycleLine o = defaultLine o := by
  unfold State.cycleLine
  rw [h]
  rfl

/-- Bytes that decode to an instruction, as many as are fetched for it, read as it (R181-R183). -/
theorem reads_of_decode {op : Byte} {tail : List Byte} {i : Instr} {internal : List Nat} {failed : Nat}
    (hn : fetchedAfterOpcode op = tail.length)
    (hl : defaultLine (keyOf (op :: tail)) = { taken := internal, notTaken := failed })
    (hd : ∀ rest, decode (op :: tail ++ rest) = .ok (i, rest)) : Reads (op :: tail) i internal failed where
  decodes := hd
  fetched s h hb := by
    have hd' := hd []
    rw [List.append_nil] at hd'
    exact fetch_live h hb hn hd'
  paced s h := by
    refine ⟨?_, fun k => ?_, ?_⟩
    · show tail.length + 1 + (((s.cycleLine (.main op)).fetch.take tail.length).sum) = tail.length + 1
      rw [cycleLine_default h, defaultLine_fetch]
      simp
    · unfold gap
      rw [cycleLine_default h, hl]
    · unfold gapNotTaken
      rw [cycleLine_default h, hl]

/-- The address 0xFF00 + C is the high page's (R148). -/
theorem cAddress_eq (s : State) : cAddress s = highPage s.cpu.c := by
  unfold cAddress highPage
  generalize s.cpu.c = c
  revert c
  decide

/-- The condition of a claim is the machine's (R320). -/
theorem condHolds_iff (s : State) (cc : Cond) : condHolds s cc ↔ s.cond cc = true := by
  cases cc <;> simp [condHolds, State.cond, State.flags, Flags.unpack, zFlag, cFlag]

/-- Each row reads as its instruction (R201). -/
theorem loadRegRows_reads : ∀ x ∈ loadRegRows, Reads [x.1] x.2.1 := by
  simp only [loadRegRows, List.forall_mem_append]
  repeat'
    first
    | apply And.intro
    | refine List.forall_mem_cons.2 ⟨reads_of_decode rfl rfl fun _ => rfl, ?_⟩
    | exact List.forall_mem_nil _

/-- Each row is one shared operation (R201). -/
theorem loadRegRows_exec : ∀ x ∈ loadRegRows, ∀ s : State,
    exec x.2.1 s = finish (settle (s.gaps (.main x.1)) (s.setReg8 x.2.2.1 (s.reg8 x.2.2.2))) := by
  simp only [loadRegRows, List.forall_mem_append]
  repeat'
    first
    | apply And.intro
    | refine List.forall_mem_cons.2 ⟨by intros; rfl, ?_⟩
    | exact List.forall_mem_nil _

/-- Each row reads as its instruction (R202). -/
theorem loadImmRows_reads : ∀ x ∈ loadImmRows, ∀ n : Byte, Reads [x.1, n] (x.2.1 n) := by
  unfold loadImmRows
  repeat'
    first
    | refine List.forall_mem_cons.2 ⟨fun _ => reads_of_decode rfl rfl fun _ => rfl, ?_⟩
    | exact List.forall_mem_nil _

/-- Each row is one shared operation (R202). -/
theorem loadImmRows_exec : ∀ x ∈ loadImmRows, ∀ (n : Byte) (s : State),
    exec (x.2.1 n) s = finish (settle (s.gaps (.main x.1)) (s.setReg8 x.2.2 n)) := by
  unfold loadImmRows
  repeat'
    first
    | refine List.forall_mem_cons.2 ⟨by intros; rfl, ?_⟩
    | exact List.forall_mem_nil _

/-- Each row reads as its instruction (R203, R206, R212). -/
theorem loadMemRows_reads : ∀ x ∈ loadMemRows, Reads [x.1] x.2.1 := by
  unfold loadMemRows
  repeat'
    first
    | refine List.forall_mem_cons.2 ⟨reads_of_decode rfl rfl fun _ => rfl, ?_⟩
    | exact List.forall_mem_nil _

/-- Each row is one shared operation (R203, R206, R212). -/
theorem loadMemRows_exec : ∀ x ∈ loadMemRows, ∀ s : State,
    exec x.2.1 s = finish (loadFrom (s.gaps (.main x.1)) x.2.2.1 (x.2.2.2 s) s) := by
  unfold loadMemRows
  repeat'
    first
    | refine List.forall_mem_cons.2 ⟨fun s => by
        first | rfl | exact congrArg (fun w => finish (loadFrom _ _ w s)) (cAddress_eq s).symm, ?_⟩
    | exact List.forall_mem_nil _

/-- Each row reads as its instruction (R204, R207, R213). -/
theorem storeRows_reads : ∀ x ∈ storeRows, Reads [x.1] x.2.1 := by
  unfold storeRows
  repeat'
    first
    | refine List.forall_mem_cons.2 ⟨reads_of_decode rfl rfl fun _ => rfl, ?_⟩
    | exact List.forall_mem_nil _

/-- Each row is one shared operation (R204, R207, R213). -/
theorem storeRows_exec : ∀ x ∈ storeRows, ∀ s : State,
    exec x.2.1 s = finish (storeTo (s.gaps (.main x.1)) (x.2.2.1 s) (s.reg8 x.2.2.2) s) := by
  unfold storeRows
  repeat'
    first
    | refine List.forall_mem_cons.2 ⟨fun s => by
        first | rfl | exact congrArg (fun w => finish (storeTo _ w _ s)) (cAddress_eq s).symm, ?_⟩
    | exact List.forall_mem_nil _

/-- Each row reads as its instruction (R230). -/
theorem loadWordRows_reads : ∀ x ∈ loadWordRows, ∀ lo hi : Byte, Reads [x.1, lo, hi] (x.2.1 (hi ++ lo)) := by
  unfold loadWordRows
  repeat'
    first
    | refine List.forall_mem_cons.2 ⟨fun _ _ => reads_of_decode rfl rfl fun _ => rfl, ?_⟩
    | exact List.forall_mem_nil _

/-- Each row is one shared operation (R230). -/
theorem loadWordRows_exec : ∀ x ∈ loadWordRows, ∀ (w : Word) (s : State),
    exec (x.2.1 w) s = finish (settle (s.gaps (.main x.1)) (s.setReg16 x.2.2 w)) := by
  unfold loadWordRows
  repeat'
    first
    | refine List.forall_mem_cons.2 ⟨by intros; rfl, ?_⟩
    | exact List.forall_mem_nil _

/-- Each row reads as its instruction (R234). -/
theorem pushRows_reads : ∀ x ∈ pushRows, Reads [x.1] x.2.1 [1, 0, 0] := by
  unfold pushRows
  repeat'
    first
    | refine List.forall_mem_cons.2 ⟨reads_of_decode rfl rfl fun _ => rfl, ?_⟩
    | exact List.forall_mem_nil _

/-- Each row is one shared operation (R234). -/
theorem pushRows_exec : ∀ x ∈ pushRows, ∀ s : State,
    exec x.2.1 s = finish (pushWord (s.gaps (.main x.1)) (s.stackReg x.2.2) s) := by
  unfold pushRows
  repeat'
    first
    | refine List.forall_mem_cons.2 ⟨by intros; rfl, ?_⟩
    | exact List.forall_mem_nil _

/-- Each row reads as its instruction (R235, R236). -/
theorem popRows_reads : ∀ x ∈ popRows, Reads [x.1] x.2.1 := by
  unfold popRows
  repeat'
    first
    | refine List.forall_mem_cons.2 ⟨reads_of_decode rfl rfl fun _ => rfl, ?_⟩
    | exact List.forall_mem_nil _

/-- Each row is one shared operation (R235, R236). -/
theorem popRows_exec : ∀ x ∈ popRows, ∀ s : State,
    exec x.2.1 s = finish (pop (s.gaps (.main x.1)) x.2.2 s) := by
  unfold popRows
  repeat'
    first
    | refine List.forall_mem_cons.2 ⟨by intros; rfl, ?_⟩
    | exact List.forall_mem_nil _

/-- Each row reads as its instruction (R251-R258). -/
theorem aluRows_reads : ∀ x ∈ aluRows, Reads [x.1] x.2.1 := by
  simp only [aluRows, List.forall_mem_append]
  repeat'
    first
    | apply And.intro
    | refine List.forall_mem_cons.2 ⟨reads_of_decode rfl rfl fun _ => rfl, ?_⟩
    | exact List.forall_mem_nil _

/-- Each row is one shared operation (R251-R258). -/
theorem aluRows_exec : ∀ x ∈ aluRows, ∀ s : State,
    exec x.2.1 s = finish (alu (s.gaps (.main x.1)) x.2.2.1 x.2.2.2 s) := by
  simp only [aluRows, List.forall_mem_append]
  repeat'
    first
    | apply And.intro
    | refine List.forall_mem_cons.2 ⟨by intros; rfl, ?_⟩
    | exact List.forall_mem_nil _

/-- Each row reads as its instruction (R251-R258). -/
theorem aluImmRows_reads : ∀ x ∈ aluImmRows, ∀ n : Byte, Reads [x.1, n] (x.2.1 n) := by
  unfold aluImmRows
  repeat'
    first
    | refine List.forall_mem_cons.2 ⟨fun _ => reads_of_decode rfl rfl fun _ => rfl, ?_⟩
    | exact List.forall_mem_nil _

/-- Each row is one shared operation (R251-R258). -/
theorem aluImmRows_exec : ∀ x ∈ aluImmRows, ∀ (n : Byte) (s : State),
    exec (x.2.1 n) s = finish (alu (s.gaps (.main x.1)) x.2.2 (.imm n) s) := by
  unfold aluImmRows
  repeat'
    first
    | refine List.forall_mem_cons.2 ⟨by intros; rfl, ?_⟩
    | exact List.forall_mem_nil _

/-- Each row reads as its instruction (R259). -/
theorem incRows_reads : ∀ x ∈ incRows, Reads [x.1] x.2.1 := by
  unfold incRows
  repeat'
    first
    | refine List.forall_mem_cons.2 ⟨reads_of_decode rfl rfl fun _ => rfl, ?_⟩
    | exact List.forall_mem_nil _

/-- Each row is one shared operation (R259). -/
theorem incRows_exec : ∀ x ∈ incRows, ∀ s : State,
    exec x.2.1 s = finish (settle (s.gaps (.main x.1)) (incReg x.2.2 s)) := by
  unfold incRows
  repeat'
    first
    | refine List.forall_mem_cons.2 ⟨by intros; rfl, ?_⟩
    | exact List.forall_mem_nil _

/-- Each row reads as its instruction (R261). -/
theorem decRows_reads : ∀ x ∈ decRows, Reads [x.1] x.2.1 := by
  unfold decRows
  repeat'
    first
    | refine List.forall_mem_cons.2 ⟨reads_of_decode rfl rfl fun _ => rfl, ?_⟩
    | exact List.forall_mem_nil _

/-- Each row is one shared operation (R261). -/
theorem decRows_exec : ∀ x ∈ decRows, ∀ s : State,
    exec x.2.1 s = finish (settle (s.gaps (.main x.1)) (decReg x.2.2 s)) := by
  unfold decRows
  repeat'
    first
    | refine List.forall_mem_cons.2 ⟨by intros; rfl, ?_⟩
    | exact List.forall_mem_nil _

/-- Each row reads as its instruction (R280). -/
theorem incWordRows_reads : ∀ x ∈ incWordRows, Reads [x.1] x.2.1 [1] := by
  unfold incWordRows
  repeat'
    first
    | refine List.forall_mem_cons.2 ⟨reads_of_decode rfl rfl fun _ => rfl, ?_⟩
    | exact List.forall_mem_nil _

/-- Each row is one shared operation (R280). -/
theorem incWordRows_exec : ∀ x ∈ incWordRows, ∀ s : State,
    exec x.2.1 s = finish (settle (s.gaps (.main x.1)) (s.setReg16 x.2.2 (s.reg16 x.2.2 + 1))) := by
  unfold incWordRows
  repeat'
    first
    | refine List.forall_mem_cons.2 ⟨by intros; rfl, ?_⟩
    | exact List.forall_mem_nil _

/-- Each row reads as its instruction (R281). -/
theorem decWordRows_reads : ∀ x ∈ decWordRows, Reads [x.1] x.2.1 [1] := by
  unfold decWordRows
  repeat'
    first
    | refine List.forall_mem_cons.2 ⟨reads_of_decode rfl rfl fun _ => rfl, ?_⟩
    | exact List.forall_mem_nil _

/-- Each row is one shared operation (R281). -/
theorem decWordRows_exec : ∀ x ∈ decWordRows, ∀ s : State,
    exec x.2.1 s = finish (settle (s.gaps (.main x.1)) (s.setReg16 x.2.2 (s.reg16 x.2.2 - 1))) := by
  unfold decWordRows
  repeat'
    first
    | refine List.forall_mem_cons.2 ⟨by intros; rfl, ?_⟩
    | exact List.forall_mem_nil _

/-- Each row reads as its instruction (R282). -/
theorem addHlRows_reads : ∀ x ∈ addHlRows, Reads [x.1] x.2.1 [1] := by
  unfold addHlRows
  repeat'
    first
    | refine List.forall_mem_cons.2 ⟨reads_of_decode rfl rfl fun _ => rfl, ?_⟩
    | exact List.forall_mem_nil _

/-- Each row is one shared operation (R282). -/
theorem addHlRows_exec : ∀ x ∈ addHlRows, ∀ s : State,
    exec x.2.1 s = finish (settle (s.gaps (.main x.1)) (addHl (s.reg16 x.2.2) s)) := by
  unfold addHlRows
  repeat'
    first
    | refine List.forall_mem_cons.2 ⟨by intros; rfl, ?_⟩
    | exact List.forall_mem_nil _

/-- Each row reads as its instruction (R290-R293). -/
theorem rotateARows_reads : ∀ x ∈ rotateARows, Reads [x.1] x.2.1 := by
  unfold rotateARows
  repeat'
    first
    | refine List.forall_mem_cons.2 ⟨reads_of_decode rfl rfl fun _ => rfl, ?_⟩
    | exact List.forall_mem_nil _

/-- Each row is one shared operation (R290-R293). -/
theorem rotateARows_exec : ∀ x ∈ rotateARows, ∀ s : State,
    exec x.2.1 s = finish (settle (s.gaps (.main x.1)) (rotateA x.2.2 s)) := by
  unfold rotateARows
  repeat'
    first
    | refine List.forall_mem_cons.2 ⟨by intros; rfl, ?_⟩
    | exact List.forall_mem_nil _

/-- Each row reads as its instruction (R295-R302). -/
theorem rotateRows_reads : ∀ x ∈ rotateRows, Reads [0xCB, x.1] x.2.1 := by
  simp only [rotateRows, List.forall_mem_append]
  repeat'
    first
    | apply And.intro
    | refine List.forall_mem_cons.2 ⟨reads_of_decode rfl rfl fun _ => rfl, ?_⟩
    | exact List.forall_mem_nil _

/-- Each row is one shared operation (R295-R302). -/
theorem rotateRows_exec : ∀ x ∈ rotateRows, ∀ s : State,
    exec x.2.1 s = finish (rotate (s.gaps (.cb x.1)) x.2.2.1 x.2.2.2 s) := by
  simp only [rotateRows, List.forall_mem_append]
  repeat'
    first
    | apply And.intro
    | refine List.forall_mem_cons.2 ⟨by intros; rfl, ?_⟩
    | exact List.forall_mem_nil _

/-- Each row reads as its instruction (R303). -/
theorem bitRows_reads : ∀ x ∈ bitRows, Reads [0xCB, x.1] x.2.1 := by
  simp only [bitRows, List.forall_mem_append]
  repeat'
    first
    | apply And.intro
    | refine List.forall_mem_cons.2 ⟨reads_of_decode rfl rfl fun _ => rfl, ?_⟩
    | exact List.forall_mem_nil _

/-- Each row is one shared operation (R303). -/
theorem bitRows_exec : ∀ x ∈ bitRows, ∀ s : State,
    exec x.2.1 s = finish (testBit (s.gaps (.cb x.1)) (BitVec.ofNat 3 x.2.2.1) x.2.2.2 s) := by
  simp only [bitRows, List.forall_mem_append]
  repeat'
    first
    | apply And.intro
    | refine List.forall_mem_cons.2 ⟨by intros; rfl, ?_⟩
    | exact List.forall_mem_nil _

/-- Each row reads as its instruction (R304). -/
theorem resRows_reads : ∀ x ∈ resRows, Reads [0xCB, x.1] x.2.1 := by
  simp only [resRows, List.forall_mem_append]
  repeat'
    first
    | apply And.intro
    | refine List.forall_mem_cons.2 ⟨reads_of_decode rfl rfl fun _ => rfl, ?_⟩
    | exact List.forall_mem_nil _

/-- Each row is one shared operation (R304). -/
theorem resRows_exec : ∀ x ∈ resRows, ∀ s : State,
    exec x.2.1 s = finish (Machine.modify (s.gaps (.cb x.1)) (resBit (BitVec.ofNat 3 x.2.2.1)) x.2.2.2 s) := by
  simp only [resRows, List.forall_mem_append]
  repeat'
    first
    | apply And.intro
    | refine List.forall_mem_cons.2 ⟨by intros; rfl, ?_⟩
    | exact List.forall_mem_nil _

/-- Each row reads as its instruction (R305). -/
theorem setRows_reads : ∀ x ∈ setRows, Reads [0xCB, x.1] x.2.1 := by
  simp only [setRows, List.forall_mem_append]
  repeat'
    first
    | apply And.intro
    | refine List.forall_mem_cons.2 ⟨reads_of_decode rfl rfl fun _ => rfl, ?_⟩
    | exact List.forall_mem_nil _

/-- Each row is one shared operation (R305). -/
theorem setRows_exec : ∀ x ∈ setRows, ∀ s : State,
    exec x.2.1 s = finish (Machine.modify (s.gaps (.cb x.1)) (setBit (BitVec.ofNat 3 x.2.2.1)) x.2.2.2 s) := by
  simp only [setRows, List.forall_mem_append]
  repeat'
    first
    | apply And.intro
    | refine List.forall_mem_cons.2 ⟨by intros; rfl, ?_⟩
    | exact List.forall_mem_nil _

/-- Each row reads as its instruction (R322). -/
theorem jumpIfRows_reads : ∀ x ∈ jumpIfRows, ∀ lo hi : Byte, Reads [x.1, lo, hi] (x.2.1 (hi ++ lo)) [1] := by
  unfold jumpIfRows
  repeat'
    first
    | refine List.forall_mem_cons.2 ⟨fun _ _ => reads_of_decode rfl rfl fun _ => rfl, ?_⟩
    | exact List.forall_mem_nil _

/-- Each row is one shared operation (R322). -/
theorem jumpIfRows_exec : ∀ x ∈ jumpIfRows, ∀ (a : Word) (s : State),
    exec (x.2.1 a) s = finish (jumpIf (s.cycleLine (.main x.1)) (s.cond x.2.2) a s) := by
  unfold jumpIfRows
  repeat'
    first
    | refine List.forall_mem_cons.2 ⟨by intros; rfl, ?_⟩
    | exact List.forall_mem_nil _

/-- Each row reads as its instruction (R325). -/
theorem jumpRelIfRows_reads : ∀ x ∈ jumpRelIfRows, ∀ n : Byte, Reads [x.1, n] (x.2.1 n) [1] := by
  unfold jumpRelIfRows
  repeat'
    first
    | refine List.forall_mem_cons.2 ⟨fun _ => reads_of_decode rfl rfl fun _ => rfl, ?_⟩
    | exact List.forall_mem_nil _

/-- Each row is one shared operation (R325). -/
theorem jumpRelIfRows_exec : ∀ x ∈ jumpRelIfRows, ∀ (e : Byte) (s : State),
    exec (x.2.1 e) s = finish (jumpRelativeIf (s.cycleLine (.main x.1)) (s.cond x.2.2) e s) := by
  unfold jumpRelIfRows
  repeat'
    first
    | refine List.forall_mem_cons.2 ⟨by intros; rfl, ?_⟩
    | exact List.forall_mem_nil _

/-- Each row reads as its instruction (R327). -/
theorem callIfRows_reads : ∀ x ∈ callIfRows, ∀ lo hi : Byte,
    Reads [x.1, lo, hi] (x.2.1 (hi ++ lo)) [1, 0, 0] := by
  unfold callIfRows
  repeat'
    first
    | refine List.forall_mem_cons.2 ⟨fun _ _ => reads_of_decode rfl rfl fun _ => rfl, ?_⟩
    | exact List.forall_mem_nil _

/-- Each row is one shared operation (R327). -/
theorem callIfRows_exec : ∀ x ∈ callIfRows, ∀ (a : Word) (s : State),
    exec (x.2.1 a) s = finish (callIf (s.cycleLine (.main x.1)) (s.cond x.2.2) a s) := by
  unfold callIfRows
  repeat'
    first
    | refine List.forall_mem_cons.2 ⟨by intros; rfl, ?_⟩
    | exact List.forall_mem_nil _

/-- Each row reads as its instruction (R329). -/
theorem retIfRows_reads : ∀ x ∈ retIfRows, Reads [x.1] x.2.1 [1, 0, 1] 1 := by
  unfold retIfRows
  repeat'
    first
    | refine List.forall_mem_cons.2 ⟨reads_of_decode rfl rfl fun _ => rfl, ?_⟩
    | exact List.forall_mem_nil _

/-- Each row is one shared operation (R329). -/
theorem retIfRows_exec : ∀ x ∈ retIfRows, ∀ s : State,
    exec x.2.1 s = finish (returnIf (s.cycleLine (.main x.1)) (s.cond x.2.2) s) := by
  unfold retIfRows
  repeat'
    first
    | refine List.forall_mem_cons.2 ⟨by intros; rfl, ?_⟩
    | exact List.forall_mem_nil _

/-- Each row reads as its instruction (R331). -/
theorem rstRows_reads : ∀ x ∈ rstRows, Reads [x.1] x.2.1 [1, 0, 0] := by
  unfold rstRows
  repeat'
    first
    | refine List.forall_mem_cons.2 ⟨reads_of_decode rfl rfl fun _ => rfl, ?_⟩
    | exact List.forall_mem_nil _

/-- Each row is one shared operation (R331). -/
theorem rstRows_exec : ∀ x ∈ rstRows, ∀ s : State,
    exec x.2.1 s = finish (call (s.gaps (.main x.1)) x.2.2 s) := by
  unfold rstRows
  repeat'
    first
    | refine List.forall_mem_cons.2 ⟨by intros; rfl, ?_⟩
    | exact List.forall_mem_nil _

/-- Each row reads as its instruction (R345). -/
theorem illegalRows_reads : ∀ x ∈ illegalRows, Reads [x.1] x.2 := by
  unfold illegalRows
  repeat'
    first
    | refine List.forall_mem_cons.2 ⟨reads_of_decode rfl rfl fun _ => rfl, ?_⟩
    | exact List.forall_mem_nil _

end Sys2Proof.Claims
end

