-- ==== Sys2Proof/Laws/Forms.lean ====
section
/-! SUPPORT. The shared operations the instructions are made of, in the terms of the claims: where its machine
cycles can pass and its accesses are not refused each goes on, and this is all it does. -/

namespace Sys2Proof.Claims

open Sys2Proof.Machine

/-- A part that goes on is a next state to the host. -/
theorem finish_done {r : Res Unit} {P : State → Prop} (h : r.Done fun _ t => P t) :
    ∃ t, finish r = .next t ∧ P t := by
  obtain ⟨_, t, rfl, ht⟩ := h
  exact ⟨t, rfl, ht⟩

theorem live_cpu {s : State} {c : Cpu} (h : Live { s with cpu := c }) : Live s := h.withCpu s.cpu

/-- Writes of registers change the CPU alone. -/
theorem setReg8_eq (s : State) (r : Reg8) (v : Byte) :
    s.setReg8 r v = { s with cpu := (s.setReg8 r v).cpu } := by cases r <;> rfl

theorem setReg16_eq (s : State) (r : Reg16) (v : Word) :
    s.setReg16 r v = { s with cpu := (s.setReg16 r v).cpu } := by cases r <;> rfl

theorem setFlags_eq (s : State) (f : Flags) : s.setFlags f = withF s f.pack := by
  obtain ⟨z, n, h, c⟩ := f
  cases z <;> cases n <;> cases h <;> cases c <;> rfl

theorem pack_eq (z n h c : Bool) : Flags.pack ⟨z, n, h, c⟩ = flagByte z n h c := by
  cases z <;> cases n <;> cases h <;> cases c <;> rfl

/-- Time passes alike whatever the registers hold. -/
theorem elapsed_setReg8 {n : Nat} {s t : State} (h : Elapsed n s t) (r : Reg8) (v : Byte) :
    Elapsed n (s.setReg8 r v) (t.setReg8 r v) := by
  cases r
  case b => exact h.setCpu fun c => { c with b := v }
  case c => exact h.setCpu fun c => { c with c := v }
  case d => exact h.setCpu fun c => { c with d := v }
  case e => exact h.setCpu fun c => { c with e := v }
  case h => exact h.setCpu fun c => { c with h := v }
  case l => exact h.setCpu fun c => { c with l := v }
  case a => exact h.setCpu fun c => { c with a := v }

theorem elapsed_setReg16 {n : Nat} {s t : State} (h : Elapsed n s t) (r : Reg16) (v : Word) :
    Elapsed n (s.setReg16 r v) (t.setReg16 r v) := by
  cases r
  case bc => exact h.setCpu fun c => { c with b := hiByte v, c := loByte v }
  case de => exact h.setCpu fun c => { c with d := hiByte v, e := loByte v }
  case hl => exact h.setCpu fun c => { c with h := hiByte v, l := loByte v }
  case sp => exact h.setCpu fun c => { c with sp := v }

theorem live_setReg8 {s : State} (h : Live s) (r : Reg8) (v : Byte) : Live (s.setReg8 r v) := by
  rw [setReg8_eq]
  exact h.withCpu _

theorem live_setReg16 {s : State} (h : Live s) (r : Reg16) (v : Word) : Live (s.setReg16 r v) := by
  rw [setReg16_eq]
  exact h.withCpu _

/-- The parameters do not move: an opcode's line is the same later. -/
theorem gap_elapsed {n : Nat} {s t : State} (h : Elapsed n s t) (o : Opcode) (k : Nat) :
    gap t o k = gap s o k := by
  unfold gap State.cycleLine
  rw [programSide_params h.program]

/-- Internal cycles from a state that differs from `s` in the CPU alone (R185). -/
theorem idles_cpu {s s' : State} {n : Nat} (hs : s' = { s with cpu := s'.cpu }) (h : s.CanPass n) :
    (Res.repeat idle n s').Done fun _ t => (Live s → Live t) ∧ Elapsed n s' t := by
  have hp : s'.CanPass n := fun hn => by rw [hs]; exact (h hn).withCpu _
  refine (idles_done hp).mono fun _ t ⟨ht, he⟩ => ⟨fun hl => ht ?_, he⟩
  rw [hs]
  exact hl.withCpu _

/-- An effect without an access, and its internal cycles. -/
theorem completes_settle {i : Instr} {s s' : State} {o : Opcode}
    (he : exec i s = finish (settle (s.gaps o) s')) (hs : s' = { s with cpu := s'.cpu })
    (h : s.CanPass (gap s o 0)) : Completes i s (gap s o 0) s' := by
  obtain ⟨t, hf, ht, hel⟩ := finish_done (idles_cpu hs h)
  exact ⟨t, he.trans hf, ht, hel⟩

/-- A condition that fails (R188). -/
theorem completes_notTaken {i : Instr} {s : State} {o : Opcode}
    (he : exec i s = finish (notTaken (s.cycleLine o) s)) (h : s.CanPass (gapNotTaken s o)) :
    Completes i s (gapNotTaken s o) s := by
  obtain ⟨t, hf, ht, hel⟩ := finish_done (idles_done h)
  exact ⟨t, he.trans hf, ht, hel⟩

/-- `readThen` on a live machine. -/
theorem readThen_at {s : State} (h : Live s) {a : Word} (hr : s.Readable a) (g : List Nat) (k : Nat) :
    (readThen g k a s).Done fun v t => v = s.peek a ∧ Live t ∧ ReadAt (g.getD k 0) a s t := readThen_live h hr g k

theorem ReadAt.elapsed {g : Nat} {a : Word} {s t : State} (h : ReadAt g a s t) : Elapsed (1 + g) s t := by
  obtain ⟨_, _, h1, h2⟩ := h
  exact h1.trans h2

/-- Reading an operand (R149, R250). -/
theorem readOperand_done {s : State} {key : Opcode} {o : Operand8} (h : OperandReady s key o) :
    (readOperand (s.gaps key) o s).Done fun v t => ∃ m, Elapsed (gap s key 0) s m ∧ (Live s → Live m) ∧
      v = operandValue m o ∧ (Live s → Live t) ∧ Elapsed (accessCycles s key o) m t ∧
      (o ≠ .memHl → t = m) ∧ (o = .memHl → ReadAt (gap s key 1) (hlAddress s) m t) := by
  unfold readOperand
  refine (pause_done h.1).andThen fun _ m ⟨hm, he⟩ => ?_
  cases o with
  | reg r =>
    exact Res.done_ok ⟨m, he, hm, rfl, hm, Elapsed.refl m, fun _ => rfl, fun e => nomatch e⟩
  | imm v =>
    exact Res.done_ok ⟨m, he, hm, rfl, hm, Elapsed.refl m, fun _ => rfl, fun e => nomatch e⟩
  | memHl =>
    obtain ⟨hl, hr⟩ := h.2 rfl
    have hhl : m.hl = hlAddress s := by
      unfold State.hl
      rw [he.cpu]
      rfl
    rw [hhl]
    refine (readThen_at (hm hl) (hr.elapsed he) (s.gaps key) 1).mono fun v t ⟨hv, ht, hra⟩ => ?_
    refine ⟨m, he, hm, ?_, fun _ => ht, hra.elapsed, fun e => absurd rfl e, fun _ => hra⟩
    rw [hv, ← hhl]
    rfl

/-- Reading an operand, computing from it, and writing the result back (R294). -/
theorem readWrite_done {s : State} {key : Opcode} {o : Operand8} {f : Byte → Byte} (hi : ∀ v, o ≠ .imm v)
    (h : ResultReady s key o (f (operandValue s o))) :
    ∃ m w u, readOperand (s.gaps key) o s = .ok (operandValue m o) w ∧ Elapsed (gap s key 0) s m ∧
      w.cpu = s.cpu ∧ writeOperand (s.gaps key) o (f (operandValue m o)) w = .ok () u ∧
      ResultWritten (gap s key 1) (gap s key 2) o (f (operandValue m o)) m u ∧ (Live s → Live u) := by
  have hr : OperandReady s key o := ⟨h.1, fun e => ⟨(h.2 e).1, (h.2 e).2.1⟩⟩
  obtain ⟨v, w, hv, m, he, hm, rfl, hw, hel, h1, h2⟩ := readOperand_done hr
  have hcpu : w.cpu = s.cpu := hel.cpu.trans he.cpu
  cases o with
  | imm v => exact absurd rfl (hi v)
  | reg r =>
    obtain rfl := h1 (fun e => nomatch e)
    exact ⟨w, w, _, hv, he, hcpu, rfl, rfl, fun hl => live_setReg8 (hm hl) _ _⟩
  | memHl =>
    obtain ⟨hl, hs⟩ := h.2 rfl
    have hra := h2 rfl
    have hmhl : hlAddress m = hlAddress s := by unfold hlAddress; rw [he.cpu]
    have hwhl : w.hl = hlAddress s := by
      unfold State.hl
      rw [hcpu]
      rfl
    have hst : w.Storable (hlAddress s) (f (operandValue m .memHl)) := by
      have hm' : m.Storable (hlAddress s) (f (m.peek (hlAddress s))) := State.Storable.elapsed_peek hs he
      have : operandValue m .memHl = m.peek (hlAddress s) := congrArg m.peek hmhl
      rw [this]
      exact hm'.elapsed hel
    obtain ⟨_, u, hu, hlu, hsu⟩ := writeThen_live (hw hl) hst (s.gaps key) 2
    refine ⟨m, w, u, hv, he, hcpu, ?_, ⟨w, ?_, ?_⟩, fun _ => hlu⟩
    · unfold writeOperand
      rw [hwhl]
      exact hu
    · rw [hmhl]
      exact hra
    · rw [hmhl]
      exact hsu

/-- A load from memory (R203). -/
theorem loadFrom_done {s : State} (h : Live s) {a : Word} (hr : s.Readable a) (key : Opcode) (r : Reg8) :
    (loadFrom (s.gaps key) r a s).Done fun _ t => ∃ m, Elapsed (gap s key 0) s m ∧ Live m ∧ Live t ∧
      Elapsed (1 + gap s key 1) (m.setReg8 r (m.peek a)) t := by
  unfold loadFrom
  refine (pause_live h _ 0).andThen fun _ m ⟨hm, he⟩ => ?_
  refine (readThen_at hm (hr.elapsed he) _ 1).andThen fun v t ⟨hv, ht, hra⟩ => ?_
  rw [hv]
  exact Res.done_ok ⟨m, he, hm, live_setReg8 ht _ _, elapsed_setReg8 hra.elapsed _ _⟩

/-- A store (R204). -/
theorem storeTo_done {s : State} (h : Live s) {a : Word} {v : Byte} (hs : s.Storable a v) (key : Opcode) :
    (storeTo (s.gaps key) a v s).Done fun _ t => StoredVia key a v s t := by
  unfold storeTo
  refine (pause_live h _ 0).andThen fun _ m ⟨hm, he⟩ => ?_
  exact (writeThen_live hm (hs.elapsed he) _ 1).mono fun _ t ⟨ht, hst⟩ => ⟨m, he, hm, hst, ht⟩

/-- A word stored (R231). -/
theorem storeWord_done {s : State} (h : Live s) {a w : Word} (key : Opcode)
    (h1 : s.Storable a (loByte w)) (h2 : s.Storable (a + 1) (hiByte w)) :
    (storeWord (s.gaps key) a w s).Done fun _ t => Live t ∧ ∃ m, StoredVia key a (loByte w) s m ∧
      Stored (1 + gap s key 2) (a + 1) (hiByte w) m t := by
  unfold storeWord
  refine (pause_live h _ 0).andThen fun _ m ⟨hm, he⟩ => ?_
  refine (writeThen_live hm (h1.elapsed he) _ 1).andThen fun _ u ⟨hu, hst⟩ => ?_
  exact (writeThen_live hu ((h2.elapsed he).of_params hst.params) _ 2).mono fun _ t ⟨ht, hst'⟩ =>
    ⟨ht, u, ⟨m, he, hm, hst, hu⟩, hst'⟩

/-- A push (R234). -/
theorem pushWord_done {s : State} (h : Live s) {w : Word} (hp : s.Pushable w) (g : List Nat) :
    (pushWord g w s).Done fun _ t => Live t ∧ ∃ m, Elapsed (g.getD 0 0) s m ∧ Live m ∧
      Pushed (g.getD 1 0) (g.getD 2 0) w m t := by
  refine (pushWord_live h hp g).mono fun _ t ⟨ht, m, u, hm, he, _, h1, h2⟩ => ⟨ht, m, he, hm, u, ?_⟩
  rw [he.cpu]
  rw [hiByte_eq] at h1
  rw [loByte_eq] at h2
  exact ⟨h1, h2⟩

/-- What a push leaves of the CPU. -/
theorem Pushed.cpu {g1 g2 : Nat} {w : Word} {s t : State} (h : Pushed g1 g2 w s t) :
    t.cpu = { s.cpu with sp := s.cpu.sp - 2 } := by
  obtain ⟨m, h1, h2⟩ := h
  rw [h2.cpu]
  show { m.cpu with sp := s.cpu.sp - 2 } = _
  rw [h1.cpu]
  rfl

/-- A pop (R235). -/
theorem popWord_done {s : State} (h : Live s) (hp : s.Poppable) (g : List Nat) :
    (popWord g s).Done fun w t => Live t ∧ ∃ m, Elapsed (g.getD 0 0) s m ∧ Live m ∧
      Popped (g.getD 1 0) (g.getD 2 0) w m t := by
  refine (popWord_live h hp g).mono fun w t ⟨ht, m, u, x, hm, he, h1, h2, h3, h4, h5⟩ => ?_
  exact ⟨ht, m, he, hm, h5, u, x, h1, h2, h3, h4⟩

end Sys2Proof.Claims
end

