-- ==== Sys2Proof/Laws/PerInstr.lean ====
section
/-! SUPPORT. Facts stated of every instruction, one lemma a constructor. -/

/-- The encoding's first byte tells how many bytes after it are fetched before the instruction acts: all
that the encoding has, at most two (R140, R157), but STOP's unused second byte is not fetched (R156). -/
def Sys2Proof.Laws.Fetched.Statement (i : Sys2Proof.Instr) : Prop :=
  i.wf = true → ∃ op tail, Sys2Proof.encode i = op :: tail ∧ tail.length ≤ 2 ∧
    Sys2Proof.fetchedAfterOpcode op = if op = 0x10 then 0 else tail.length

/-- An encoding whose first byte asks for as many bytes as follow it meets the statement. -/
theorem Sys2Proof.Laws.Fetched.of_encode {i : Sys2Proof.Instr} (op : Sys2Proof.Byte)
    (tail : List Sys2Proof.Byte) (he : Sys2Proof.encode i = op :: tail) (hl : Nat.ble tail.length 2 = true)
    (hf : Sys2Proof.fetchedAfterOpcode op = if op = 0x10 then 0 else tail.length) :
    Sys2Proof.Laws.Fetched.Statement i :=
  fun _ => ⟨op, tail, he, Nat.le_of_ble_eq_true hl, hf⟩

namespace Sys2Proof.Laws.Fetched

theorem nop : Statement .nop := of_encode _ _ rfl rfl rfl

theorem ldBcD16 (v : Word) : Statement (.ldBcD16 v) :=
  of_encode _ _ rfl rfl rfl

theorem ldMemBcA : Statement .ldMemBcA := of_encode _ _ rfl rfl rfl

theorem incBc : Statement .incBc := of_encode _ _ rfl rfl rfl

theorem incB : Statement .incB := of_encode _ _ rfl rfl rfl

theorem decB : Statement .decB := of_encode _ _ rfl rfl rfl

theorem ldBD8 (v : Byte) : Statement (.ldBD8 v) :=
  of_encode _ _ rfl rfl rfl

theorem rlca : Statement .rlca := of_encode _ _ rfl rfl rfl

theorem ldMemA16Sp (v : Word) : Statement (.ldMemA16Sp v) :=
  of_encode _ _ rfl rfl rfl

theorem addHlBc : Statement .addHlBc := of_encode _ _ rfl rfl rfl

theorem ldAMemBc : Statement .ldAMemBc := of_encode _ _ rfl rfl rfl

theorem decBc : Statement .decBc := of_encode _ _ rfl rfl rfl

theorem incC : Statement .incC := of_encode _ _ rfl rfl rfl

theorem decC : Statement .decC := of_encode _ _ rfl rfl rfl

theorem ldCD8 (v : Byte) : Statement (.ldCD8 v) :=
  of_encode _ _ rfl rfl rfl

theorem rrca : Statement .rrca := of_encode _ _ rfl rfl rfl

theorem stop : Statement .stop := of_encode _ _ rfl rfl rfl

theorem ldDeD16 (v : Word) : Statement (.ldDeD16 v) :=
  of_encode _ _ rfl rfl rfl

theorem ldMemDeA : Statement .ldMemDeA := of_encode _ _ rfl rfl rfl

theorem incDe : Statement .incDe := of_encode _ _ rfl rfl rfl

theorem incD : Statement .incD := of_encode _ _ rfl rfl rfl

theorem decD : Statement .decD := of_encode _ _ rfl rfl rfl

theorem ldDD8 (v : Byte) : Statement (.ldDD8 v) :=
  of_encode _ _ rfl rfl rfl

theorem rla : Statement .rla := of_encode _ _ rfl rfl rfl

theorem jrE8 (v : Byte) : Statement (.jrE8 v) :=
  of_encode _ _ rfl rfl rfl

theorem addHlDe : Statement .addHlDe := of_encode _ _ rfl rfl rfl

theorem ldAMemDe : Statement .ldAMemDe := of_encode _ _ rfl rfl rfl

theorem decDe : Statement .decDe := of_encode _ _ rfl rfl rfl

theorem incE : Statement .incE := of_encode _ _ rfl rfl rfl

theorem decE : Statement .decE := of_encode _ _ rfl rfl rfl

theorem ldED8 (v : Byte) : Statement (.ldED8 v) :=
  of_encode _ _ rfl rfl rfl

theorem rra : Statement .rra := of_encode _ _ rfl rfl rfl

theorem jrNzE8 (v : Byte) : Statement (.jrNzE8 v) :=
  of_encode _ _ rfl rfl rfl

theorem ldHlD16 (v : Word) : Statement (.ldHlD16 v) :=
  of_encode _ _ rfl rfl rfl

theorem ldMemHlIncA : Statement .ldMemHlIncA := of_encode _ _ rfl rfl rfl

theorem incHl : Statement .incHl := of_encode _ _ rfl rfl rfl

theorem incH : Statement .incH := of_encode _ _ rfl rfl rfl

theorem decH : Statement .decH := of_encode _ _ rfl rfl rfl

theorem ldHD8 (v : Byte) : Statement (.ldHD8 v) :=
  of_encode _ _ rfl rfl rfl

theorem daa : Statement .daa := of_encode _ _ rfl rfl rfl

theorem jrZE8 (v : Byte) : Statement (.jrZE8 v) :=
  of_encode _ _ rfl rfl rfl

theorem addHlHl : Statement .addHlHl := of_encode _ _ rfl rfl rfl

theorem ldAMemHlInc : Statement .ldAMemHlInc := of_encode _ _ rfl rfl rfl

theorem decHl : Statement .decHl := of_encode _ _ rfl rfl rfl

theorem incL : Statement .incL := of_encode _ _ rfl rfl rfl

theorem decL : Statement .decL := of_encode _ _ rfl rfl rfl

theorem ldLD8 (v : Byte) : Statement (.ldLD8 v) :=
  of_encode _ _ rfl rfl rfl

theorem cpl : Statement .cpl := of_encode _ _ rfl rfl rfl

theorem jrNcE8 (v : Byte) : Statement (.jrNcE8 v) :=
  of_encode _ _ rfl rfl rfl

theorem ldSpD16 (v : Word) : Statement (.ldSpD16 v) :=
  of_encode _ _ rfl rfl rfl

theorem ldMemHlDecA : Statement .ldMemHlDecA := of_encode _ _ rfl rfl rfl

theorem incSp : Statement .incSp := of_encode _ _ rfl rfl rfl

theorem incMemHl : Statement .incMemHl := of_encode _ _ rfl rfl rfl

theorem decMemHl : Statement .decMemHl := of_encode _ _ rfl rfl rfl

theorem ldMemHlD8 (v : Byte) : Statement (.ldMemHlD8 v) :=
  of_encode _ _ rfl rfl rfl

theorem scf : Statement .scf := of_encode _ _ rfl rfl rfl

theorem jrCE8 (v : Byte) : Statement (.jrCE8 v) :=
  of_encode _ _ rfl rfl rfl

theorem addHlSp : Statement .addHlSp := of_encode _ _ rfl rfl rfl

theorem ldAMemHlDec : Statement .ldAMemHlDec := of_encode _ _ rfl rfl rfl

theorem decSp : Statement .decSp := of_encode _ _ rfl rfl rfl

theorem incA : Statement .incA := of_encode _ _ rfl rfl rfl

theorem decA : Statement .decA := of_encode _ _ rfl rfl rfl

theorem ldAD8 (v : Byte) : Statement (.ldAD8 v) :=
  of_encode _ _ rfl rfl rfl

theorem ccf : Statement .ccf := of_encode _ _ rfl rfl rfl

theorem ldBB : Statement .ldBB := of_encode _ _ rfl rfl rfl

theorem ldBC : Statement .ldBC := of_encode _ _ rfl rfl rfl

theorem ldBD : Statement .ldBD := of_encode _ _ rfl rfl rfl

theorem ldBE : Statement .ldBE := of_encode _ _ rfl rfl rfl

theorem ldBH : Statement .ldBH := of_encode _ _ rfl rfl rfl

theorem ldBL : Statement .ldBL := of_encode _ _ rfl rfl rfl

theorem ldBMemHl : Statement .ldBMemHl := of_encode _ _ rfl rfl rfl

theorem ldBA : Statement .ldBA := of_encode _ _ rfl rfl rfl

theorem ldCB : Statement .ldCB := of_encode _ _ rfl rfl rfl

theorem ldCC : Statement .ldCC := of_encode _ _ rfl rfl rfl

theorem ldCD : Statement .ldCD := of_encode _ _ rfl rfl rfl

theorem ldCE : Statement .ldCE := of_encode _ _ rfl rfl rfl

theorem ldCH : Statement .ldCH := of_encode _ _ rfl rfl rfl

theorem ldCL : Statement .ldCL := of_encode _ _ rfl rfl rfl

theorem ldCMemHl : Statement .ldCMemHl := of_encode _ _ rfl rfl rfl

theorem ldCA : Statement .ldCA := of_encode _ _ rfl rfl rfl

theorem ldDB : Statement .ldDB := of_encode _ _ rfl rfl rfl

theorem ldDC : Statement .ldDC := of_encode _ _ rfl rfl rfl

theorem ldDD : Statement .ldDD := of_encode _ _ rfl rfl rfl

theorem ldDE : Statement .ldDE := of_encode _ _ rfl rfl rfl

theorem ldDH : Statement .ldDH := of_encode _ _ rfl rfl rfl

theorem ldDL : Statement .ldDL := of_encode _ _ rfl rfl rfl

theorem ldDMemHl : Statement .ldDMemHl := of_encode _ _ rfl rfl rfl

theorem ldDA : Statement .ldDA := of_encode _ _ rfl rfl rfl

theorem ldEB : Statement .ldEB := of_encode _ _ rfl rfl rfl

theorem ldEC : Statement .ldEC := of_encode _ _ rfl rfl rfl

theorem ldED : Statement .ldED := of_encode _ _ rfl rfl rfl

theorem ldEE : Statement .ldEE := of_encode _ _ rfl rfl rfl

theorem ldEH : Statement .ldEH := of_encode _ _ rfl rfl rfl

theorem ldEL : Statement .ldEL := of_encode _ _ rfl rfl rfl

theorem ldEMemHl : Statement .ldEMemHl := of_encode _ _ rfl rfl rfl

theorem ldEA : Statement .ldEA := of_encode _ _ rfl rfl rfl

theorem ldHB : Statement .ldHB := of_encode _ _ rfl rfl rfl

theorem ldHC : Statement .ldHC := of_encode _ _ rfl rfl rfl

theorem ldHD : Statement .ldHD := of_encode _ _ rfl rfl rfl

theorem ldHE : Statement .ldHE := of_encode _ _ rfl rfl rfl

theorem ldHH : Statement .ldHH := of_encode _ _ rfl rfl rfl

theorem ldHL : Statement .ldHL := of_encode _ _ rfl rfl rfl

theorem ldHMemHl : Statement .ldHMemHl := of_encode _ _ rfl rfl rfl

theorem ldHA : Statement .ldHA := of_encode _ _ rfl rfl rfl

theorem ldLB : Statement .ldLB := of_encode _ _ rfl rfl rfl

theorem ldLC : Statement .ldLC := of_encode _ _ rfl rfl rfl

theorem ldLD : Statement .ldLD := of_encode _ _ rfl rfl rfl

theorem ldLE : Statement .ldLE := of_encode _ _ rfl rfl rfl

theorem ldLH : Statement .ldLH := of_encode _ _ rfl rfl rfl

theorem ldLL : Statement .ldLL := of_encode _ _ rfl rfl rfl

theorem ldLMemHl : Statement .ldLMemHl := of_encode _ _ rfl rfl rfl

theorem ldLA : Statement .ldLA := of_encode _ _ rfl rfl rfl

theorem ldMemHlB : Statement .ldMemHlB := of_encode _ _ rfl rfl rfl

theorem ldMemHlC : Statement .ldMemHlC := of_encode _ _ rfl rfl rfl

theorem ldMemHlD : Statement .ldMemHlD := of_encode _ _ rfl rfl rfl

theorem ldMemHlE : Statement .ldMemHlE := of_encode _ _ rfl rfl rfl

theorem ldMemHlH : Statement .ldMemHlH := of_encode _ _ rfl rfl rfl

theorem ldMemHlL : Statement .ldMemHlL := of_encode _ _ rfl rfl rfl

theorem halt : Statement .halt := of_encode _ _ rfl rfl rfl

theorem ldMemHlA : Statement .ldMemHlA := of_encode _ _ rfl rfl rfl

theorem ldAB : Statement .ldAB := of_encode _ _ rfl rfl rfl

theorem ldAC : Statement .ldAC := of_encode _ _ rfl rfl rfl

theorem ldAD : Statement .ldAD := of_encode _ _ rfl rfl rfl

theorem ldAE : Statement .ldAE := of_encode _ _ rfl rfl rfl

theorem ldAH : Statement .ldAH := of_encode _ _ rfl rfl rfl

theorem ldAL : Statement .ldAL := of_encode _ _ rfl rfl rfl

theorem ldAMemHl : Statement .ldAMemHl := of_encode _ _ rfl rfl rfl

theorem ldAA : Statement .ldAA := of_encode _ _ rfl rfl rfl

theorem addAB : Statement .addAB := of_encode _ _ rfl rfl rfl

theorem addAC : Statement .addAC := of_encode _ _ rfl rfl rfl

theorem addAD : Statement .addAD := of_encode _ _ rfl rfl rfl

theorem addAE : Statement .addAE := of_encode _ _ rfl rfl rfl

theorem addAH : Statement .addAH := of_encode _ _ rfl rfl rfl

theorem addAL : Statement .addAL := of_encode _ _ rfl rfl rfl

theorem addAMemHl : Statement .addAMemHl := of_encode _ _ rfl rfl rfl

theorem addAA : Statement .addAA := of_encode _ _ rfl rfl rfl

theorem adcAB : Statement .adcAB := of_encode _ _ rfl rfl rfl

theorem adcAC : Statement .adcAC := of_encode _ _ rfl rfl rfl

theorem adcAD : Statement .adcAD := of_encode _ _ rfl rfl rfl

theorem adcAE : Statement .adcAE := of_encode _ _ rfl rfl rfl

theorem adcAH : Statement .adcAH := of_encode _ _ rfl rfl rfl

theorem adcAL : Statement .adcAL := of_encode _ _ rfl rfl rfl

theorem adcAMemHl : Statement .adcAMemHl := of_encode _ _ rfl rfl rfl

theorem adcAA : Statement .adcAA := of_encode _ _ rfl rfl rfl

theorem subAB : Statement .subAB := of_encode _ _ rfl rfl rfl

theorem subAC : Statement .subAC := of_encode _ _ rfl rfl rfl

theorem subAD : Statement .subAD := of_encode _ _ rfl rfl rfl

theorem subAE : Statement .subAE := of_encode _ _ rfl rfl rfl

theorem subAH : Statement .subAH := of_encode _ _ rfl rfl rfl

theorem subAL : Statement .subAL := of_encode _ _ rfl rfl rfl

theorem subAMemHl : Statement .subAMemHl := of_encode _ _ rfl rfl rfl

theorem subAA : Statement .subAA := of_encode _ _ rfl rfl rfl

theorem sbcAB : Statement .sbcAB := of_encode _ _ rfl rfl rfl

theorem sbcAC : Statement .sbcAC := of_encode _ _ rfl rfl rfl

theorem sbcAD : Statement .sbcAD := of_encode _ _ rfl rfl rfl

theorem sbcAE : Statement .sbcAE := of_encode _ _ rfl rfl rfl

theorem sbcAH : Statement .sbcAH := of_encode _ _ rfl rfl rfl

theorem sbcAL : Statement .sbcAL := of_encode _ _ rfl rfl rfl

theorem sbcAMemHl : Statement .sbcAMemHl := of_encode _ _ rfl rfl rfl

theorem sbcAA : Statement .sbcAA := of_encode _ _ rfl rfl rfl

theorem andAB : Statement .andAB := of_encode _ _ rfl rfl rfl

theorem andAC : Statement .andAC := of_encode _ _ rfl rfl rfl

theorem andAD : Statement .andAD := of_encode _ _ rfl rfl rfl

theorem andAE : Statement .andAE := of_encode _ _ rfl rfl rfl

theorem andAH : Statement .andAH := of_encode _ _ rfl rfl rfl

theorem andAL : Statement .andAL := of_encode _ _ rfl rfl rfl

theorem andAMemHl : Statement .andAMemHl := of_encode _ _ rfl rfl rfl

theorem andAA : Statement .andAA := of_encode _ _ rfl rfl rfl

theorem xorAB : Statement .xorAB := of_encode _ _ rfl rfl rfl

theorem xorAC : Statement .xorAC := of_encode _ _ rfl rfl rfl

theorem xorAD : Statement .xorAD := of_encode _ _ rfl rfl rfl

theorem xorAE : Statement .xorAE := of_encode _ _ rfl rfl rfl

theorem xorAH : Statement .xorAH := of_encode _ _ rfl rfl rfl

theorem xorAL : Statement .xorAL := of_encode _ _ rfl rfl rfl

theorem xorAMemHl : Statement .xorAMemHl := of_encode _ _ rfl rfl rfl

theorem xorAA : Statement .xorAA := of_encode _ _ rfl rfl rfl

theorem orAB : Statement .orAB := of_encode _ _ rfl rfl rfl

theorem orAC : Statement .orAC := of_encode _ _ rfl rfl rfl

theorem orAD : Statement .orAD := of_encode _ _ rfl rfl rfl

theorem orAE : Statement .orAE := of_encode _ _ rfl rfl rfl

theorem orAH : Statement .orAH := of_encode _ _ rfl rfl rfl

theorem orAL : Statement .orAL := of_encode _ _ rfl rfl rfl

theorem orAMemHl : Statement .orAMemHl := of_encode _ _ rfl rfl rfl

theorem orAA : Statement .orAA := of_encode _ _ rfl rfl rfl

theorem cpAB : Statement .cpAB := of_encode _ _ rfl rfl rfl

theorem cpAC : Statement .cpAC := of_encode _ _ rfl rfl rfl

theorem cpAD : Statement .cpAD := of_encode _ _ rfl rfl rfl

theorem cpAE : Statement .cpAE := of_encode _ _ rfl rfl rfl

theorem cpAH : Statement .cpAH := of_encode _ _ rfl rfl rfl

theorem cpAL : Statement .cpAL := of_encode _ _ rfl rfl rfl

theorem cpAMemHl : Statement .cpAMemHl := of_encode _ _ rfl rfl rfl

theorem cpAA : Statement .cpAA := of_encode _ _ rfl rfl rfl

theorem retNz : Statement .retNz := of_encode _ _ rfl rfl rfl

theorem popBc : Statement .popBc := of_encode _ _ rfl rfl rfl

theorem jpNzA16 (v : Word) : Statement (.jpNzA16 v) :=
  of_encode _ _ rfl rfl rfl

theorem jpA16 (v : Word) : Statement (.jpA16 v) :=
  of_encode _ _ rfl rfl rfl

theorem callNzA16 (v : Word) : Statement (.callNzA16 v) :=
  of_encode _ _ rfl rfl rfl

theorem pushBc : Statement .pushBc := of_encode _ _ rfl rfl rfl

theorem addAD8 (v : Byte) : Statement (.addAD8 v) :=
  of_encode _ _ rfl rfl rfl

theorem rst00 : Statement .rst00 := of_encode _ _ rfl rfl rfl

theorem retZ : Statement .retZ := of_encode _ _ rfl rfl rfl

theorem ret : Statement .ret := of_encode _ _ rfl rfl rfl

theorem jpZA16 (v : Word) : Statement (.jpZA16 v) :=
  of_encode _ _ rfl rfl rfl

theorem prefixCb : Statement .prefixCb := fun h => absurd h (by decide)

theorem callZA16 (v : Word) : Statement (.callZA16 v) :=
  of_encode _ _ rfl rfl rfl

theorem callA16 (v : Word) : Statement (.callA16 v) :=
  of_encode _ _ rfl rfl rfl

theorem adcAD8 (v : Byte) : Statement (.adcAD8 v) :=
  of_encode _ _ rfl rfl rfl

theorem rst08 : Statement .rst08 := of_encode _ _ rfl rfl rfl

theorem retNc : Statement .retNc := of_encode _ _ rfl rfl rfl

theorem popDe : Statement .popDe := of_encode _ _ rfl rfl rfl

theorem jpNcA16 (v : Word) : Statement (.jpNcA16 v) :=
  of_encode _ _ rfl rfl rfl

theorem illegalD3 : Statement .illegalD3 := of_encode _ _ rfl rfl rfl

theorem callNcA16 (v : Word) : Statement (.callNcA16 v) :=
  of_encode _ _ rfl rfl rfl

theorem pushDe : Statement .pushDe := of_encode _ _ rfl rfl rfl

theorem subAD8 (v : Byte) : Statement (.subAD8 v) :=
  of_encode _ _ rfl rfl rfl

theorem rst10 : Statement .rst10 := of_encode _ _ rfl rfl rfl

theorem retC : Statement .retC := of_encode _ _ rfl rfl rfl

theorem reti : Statement .reti := of_encode _ _ rfl rfl rfl

theorem jpCA16 (v : Word) : Statement (.jpCA16 v) :=
  of_encode _ _ rfl rfl rfl

theorem illegalDB : Statement .illegalDB := of_encode _ _ rfl rfl rfl

theorem callCA16 (v : Word) : Statement (.callCA16 v) :=
  of_encode _ _ rfl rfl rfl

theorem illegalDD : Statement .illegalDD := of_encode _ _ rfl rfl rfl

theorem sbcAD8 (v : Byte) : Statement (.sbcAD8 v) :=
  of_encode _ _ rfl rfl rfl

theorem rst18 : Statement .rst18 := of_encode _ _ rfl rfl rfl

theorem ldhMemA8A (v : Byte) : Statement (.ldhMemA8A v) :=
  of_encode _ _ rfl rfl rfl

theorem popHl : Statement .popHl := of_encode _ _ rfl rfl rfl

theorem ldMemCA : Statement .ldMemCA := of_encode _ _ rfl rfl rfl

theorem illegalE3 : Statement .illegalE3 := of_encode _ _ rfl rfl rfl

theorem illegalE4 : Statement .illegalE4 := of_encode _ _ rfl rfl rfl

theorem pushHl : Statement .pushHl := of_encode _ _ rfl rfl rfl

theorem andAD8 (v : Byte) : Statement (.andAD8 v) :=
  of_encode _ _ rfl rfl rfl

theorem rst20 : Statement .rst20 := of_encode _ _ rfl rfl rfl

theorem addSpE8 (v : Byte) : Statement (.addSpE8 v) :=
  of_encode _ _ rfl rfl rfl

theorem jpHl : Statement .jpHl := of_encode _ _ rfl rfl rfl

theorem ldMemA16A (v : Word) : Statement (.ldMemA16A v) :=
  of_encode _ _ rfl rfl rfl

theorem illegalEB : Statement .illegalEB := of_encode _ _ rfl rfl rfl

theorem illegalEC : Statement .illegalEC := of_encode _ _ rfl rfl rfl

theorem illegalED : Statement .illegalED := of_encode _ _ rfl rfl rfl

theorem xorAD8 (v : Byte) : Statement (.xorAD8 v) :=
  of_encode _ _ rfl rfl rfl

theorem rst28 : Statement .rst28 := of_encode _ _ rfl rfl rfl

theorem ldhAMemA8 (v : Byte) : Statement (.ldhAMemA8 v) :=
  of_encode _ _ rfl rfl rfl

theorem popAf : Statement .popAf := of_encode _ _ rfl rfl rfl

theorem ldAMemC : Statement .ldAMemC := of_encode _ _ rfl rfl rfl

theorem di : Statement .di := of_encode _ _ rfl rfl rfl

theorem illegalF4 : Statement .illegalF4 := of_encode _ _ rfl rfl rfl

theorem pushAf : Statement .pushAf := of_encode _ _ rfl rfl rfl

theorem orAD8 (v : Byte) : Statement (.orAD8 v) :=
  of_encode _ _ rfl rfl rfl

theorem rst30 : Statement .rst30 := of_encode _ _ rfl rfl rfl

theorem ldHlSpE8 (v : Byte) : Statement (.ldHlSpE8 v) :=
  of_encode _ _ rfl rfl rfl

theorem ldSpHl : Statement .ldSpHl := of_encode _ _ rfl rfl rfl

theorem ldAMemA16 (v : Word) : Statement (.ldAMemA16 v) :=
  of_encode _ _ rfl rfl rfl

theorem ei : Statement .ei := of_encode _ _ rfl rfl rfl

theorem illegalFC : Statement .illegalFC := of_encode _ _ rfl rfl rfl

theorem illegalFD : Statement .illegalFD := of_encode _ _ rfl rfl rfl

theorem cpAD8 (v : Byte) : Statement (.cpAD8 v) :=
  of_encode _ _ rfl rfl rfl

theorem rst38 : Statement .rst38 := of_encode _ _ rfl rfl rfl

theorem cbRlcB : Statement .cbRlcB := of_encode _ _ rfl rfl rfl

theorem cbRlcC : Statement .cbRlcC := of_encode _ _ rfl rfl rfl

theorem cbRlcD : Statement .cbRlcD := of_encode _ _ rfl rfl rfl

theorem cbRlcE : Statement .cbRlcE := of_encode _ _ rfl rfl rfl

theorem cbRlcH : Statement .cbRlcH := of_encode _ _ rfl rfl rfl

theorem cbRlcL : Statement .cbRlcL := of_encode _ _ rfl rfl rfl

theorem cbRlcMemHl : Statement .cbRlcMemHl := of_encode _ _ rfl rfl rfl

theorem cbRlcA : Statement .cbRlcA := of_encode _ _ rfl rfl rfl

theorem cbRrcB : Statement .cbRrcB := of_encode _ _ rfl rfl rfl

theorem cbRrcC : Statement .cbRrcC := of_encode _ _ rfl rfl rfl

theorem cbRrcD : Statement .cbRrcD := of_encode _ _ rfl rfl rfl

theorem cbRrcE : Statement .cbRrcE := of_encode _ _ rfl rfl rfl

theorem cbRrcH : Statement .cbRrcH := of_encode _ _ rfl rfl rfl

theorem cbRrcL : Statement .cbRrcL := of_encode _ _ rfl rfl rfl

theorem cbRrcMemHl : Statement .cbRrcMemHl := of_encode _ _ rfl rfl rfl

theorem cbRrcA : Statement .cbRrcA := of_encode _ _ rfl rfl rfl

theorem cbRlB : Statement .cbRlB := of_encode _ _ rfl rfl rfl

theorem cbRlC : Statement .cbRlC := of_encode _ _ rfl rfl rfl

theorem cbRlD : Statement .cbRlD := of_encode _ _ rfl rfl rfl

theorem cbRlE : Statement .cbRlE := of_encode _ _ rfl rfl rfl

theorem cbRlH : Statement .cbRlH := of_encode _ _ rfl rfl rfl

theorem cbRlL : Statement .cbRlL := of_encode _ _ rfl rfl rfl

theorem cbRlMemHl : Statement .cbRlMemHl := of_encode _ _ rfl rfl rfl

theorem cbRlA : Statement .cbRlA := of_encode _ _ rfl rfl rfl

theorem cbRrB : Statement .cbRrB := of_encode _ _ rfl rfl rfl

theorem cbRrC : Statement .cbRrC := of_encode _ _ rfl rfl rfl

theorem cbRrD : Statement .cbRrD := of_encode _ _ rfl rfl rfl

theorem cbRrE : Statement .cbRrE := of_encode _ _ rfl rfl rfl

theorem cbRrH : Statement .cbRrH := of_encode _ _ rfl rfl rfl

theorem cbRrL : Statement .cbRrL := of_encode _ _ rfl rfl rfl

theorem cbRrMemHl : Statement .cbRrMemHl := of_encode _ _ rfl rfl rfl

theorem cbRrA : Statement .cbRrA := of_encode _ _ rfl rfl rfl

theorem cbSlaB : Statement .cbSlaB := of_encode _ _ rfl rfl rfl

theorem cbSlaC : Statement .cbSlaC := of_encode _ _ rfl rfl rfl

theorem cbSlaD : Statement .cbSlaD := of_encode _ _ rfl rfl rfl

theorem cbSlaE : Statement .cbSlaE := of_encode _ _ rfl rfl rfl

theorem cbSlaH : Statement .cbSlaH := of_encode _ _ rfl rfl rfl

theorem cbSlaL : Statement .cbSlaL := of_encode _ _ rfl rfl rfl

theorem cbSlaMemHl : Statement .cbSlaMemHl := of_encode _ _ rfl rfl rfl

theorem cbSlaA : Statement .cbSlaA := of_encode _ _ rfl rfl rfl

theorem cbSraB : Statement .cbSraB := of_encode _ _ rfl rfl rfl

theorem cbSraC : Statement .cbSraC := of_encode _ _ rfl rfl rfl

theorem cbSraD : Statement .cbSraD := of_encode _ _ rfl rfl rfl

theorem cbSraE : Statement .cbSraE := of_encode _ _ rfl rfl rfl

theorem cbSraH : Statement .cbSraH := of_encode _ _ rfl rfl rfl

theorem cbSraL : Statement .cbSraL := of_encode _ _ rfl rfl rfl

theorem cbSraMemHl : Statement .cbSraMemHl := of_encode _ _ rfl rfl rfl

theorem cbSraA : Statement .cbSraA := of_encode _ _ rfl rfl rfl

theorem cbSwapB : Statement .cbSwapB := of_encode _ _ rfl rfl rfl

theorem cbSwapC : Statement .cbSwapC := of_encode _ _ rfl rfl rfl

theorem cbSwapD : Statement .cbSwapD := of_encode _ _ rfl rfl rfl

theorem cbSwapE : Statement .cbSwapE := of_encode _ _ rfl rfl rfl

theorem cbSwapH : Statement .cbSwapH := of_encode _ _ rfl rfl rfl

theorem cbSwapL : Statement .cbSwapL := of_encode _ _ rfl rfl rfl

theorem cbSwapMemHl : Statement .cbSwapMemHl := of_encode _ _ rfl rfl rfl

theorem cbSwapA : Statement .cbSwapA := of_encode _ _ rfl rfl rfl

theorem cbSrlB : Statement .cbSrlB := of_encode _ _ rfl rfl rfl

theorem cbSrlC : Statement .cbSrlC := of_encode _ _ rfl rfl rfl

theorem cbSrlD : Statement .cbSrlD := of_encode _ _ rfl rfl rfl

theorem cbSrlE : Statement .cbSrlE := of_encode _ _ rfl rfl rfl

theorem cbSrlH : Statement .cbSrlH := of_encode _ _ rfl rfl rfl

theorem cbSrlL : Statement .cbSrlL := of_encode _ _ rfl rfl rfl

theorem cbSrlMemHl : Statement .cbSrlMemHl := of_encode _ _ rfl rfl rfl

theorem cbSrlA : Statement .cbSrlA := of_encode _ _ rfl rfl rfl

theorem cbBit0B : Statement .cbBit0B := of_encode _ _ rfl rfl rfl

theorem cbBit0C : Statement .cbBit0C := of_encode _ _ rfl rfl rfl

theorem cbBit0D : Statement .cbBit0D := of_encode _ _ rfl rfl rfl

theorem cbBit0E : Statement .cbBit0E := of_encode _ _ rfl rfl rfl

theorem cbBit0H : Statement .cbBit0H := of_encode _ _ rfl rfl rfl

theorem cbBit0L : Statement .cbBit0L := of_encode _ _ rfl rfl rfl

theorem cbBit0MemHl : Statement .cbBit0MemHl := of_encode _ _ rfl rfl rfl

theorem cbBit0A : Statement .cbBit0A := of_encode _ _ rfl rfl rfl

theorem cbBit1B : Statement .cbBit1B := of_encode _ _ rfl rfl rfl

theorem cbBit1C : Statement .cbBit1C := of_encode _ _ rfl rfl rfl

theorem cbBit1D : Statement .cbBit1D := of_encode _ _ rfl rfl rfl

theorem cbBit1E : Statement .cbBit1E := of_encode _ _ rfl rfl rfl

theorem cbBit1H : Statement .cbBit1H := of_encode _ _ rfl rfl rfl

theorem cbBit1L : Statement .cbBit1L := of_encode _ _ rfl rfl rfl

theorem cbBit1MemHl : Statement .cbBit1MemHl := of_encode _ _ rfl rfl rfl

theorem cbBit1A : Statement .cbBit1A := of_encode _ _ rfl rfl rfl

theorem cbBit2B : Statement .cbBit2B := of_encode _ _ rfl rfl rfl

theorem cbBit2C : Statement .cbBit2C := of_encode _ _ rfl rfl rfl

theorem cbBit2D : Statement .cbBit2D := of_encode _ _ rfl rfl rfl

theorem cbBit2E : Statement .cbBit2E := of_encode _ _ rfl rfl rfl

theorem cbBit2H : Statement .cbBit2H := of_encode _ _ rfl rfl rfl

theorem cbBit2L : Statement .cbBit2L := of_encode _ _ rfl rfl rfl

theorem cbBit2MemHl : Statement .cbBit2MemHl := of_encode _ _ rfl rfl rfl

theorem cbBit2A : Statement .cbBit2A := of_encode _ _ rfl rfl rfl

theorem cbBit3B : Statement .cbBit3B := of_encode _ _ rfl rfl rfl

theorem cbBit3C : Statement .cbBit3C := of_encode _ _ rfl rfl rfl

theorem cbBit3D : Statement .cbBit3D := of_encode _ _ rfl rfl rfl

theorem cbBit3E : Statement .cbBit3E := of_encode _ _ rfl rfl rfl

theorem cbBit3H : Statement .cbBit3H := of_encode _ _ rfl rfl rfl

theorem cbBit3L : Statement .cbBit3L := of_encode _ _ rfl rfl rfl

theorem cbBit3MemHl : Statement .cbBit3MemHl := of_encode _ _ rfl rfl rfl

theorem cbBit3A : Statement .cbBit3A := of_encode _ _ rfl rfl rfl

theorem cbBit4B : Statement .cbBit4B := of_encode _ _ rfl rfl rfl

theorem cbBit4C : Statement .cbBit4C := of_encode _ _ rfl rfl rfl

theorem cbBit4D : Statement .cbBit4D := of_encode _ _ rfl rfl rfl

theorem cbBit4E : Statement .cbBit4E := of_encode _ _ rfl rfl rfl

theorem cbBit4H : Statement .cbBit4H := of_encode _ _ rfl rfl rfl

theorem cbBit4L : Statement .cbBit4L := of_encode _ _ rfl rfl rfl

theorem cbBit4MemHl : Statement .cbBit4MemHl := of_encode _ _ rfl rfl rfl

theorem cbBit4A : Statement .cbBit4A := of_encode _ _ rfl rfl rfl

theorem cbBit5B : Statement .cbBit5B := of_encode _ _ rfl rfl rfl

theorem cbBit5C : Statement .cbBit5C := of_encode _ _ rfl rfl rfl

theorem cbBit5D : Statement .cbBit5D := of_encode _ _ rfl rfl rfl

theorem cbBit5E : Statement .cbBit5E := of_encode _ _ rfl rfl rfl

theorem cbBit5H : Statement .cbBit5H := of_encode _ _ rfl rfl rfl

theorem cbBit5L : Statement .cbBit5L := of_encode _ _ rfl rfl rfl

theorem cbBit5MemHl : Statement .cbBit5MemHl := of_encode _ _ rfl rfl rfl

theorem cbBit5A : Statement .cbBit5A := of_encode _ _ rfl rfl rfl

theorem cbBit6B : Statement .cbBit6B := of_encode _ _ rfl rfl rfl

theorem cbBit6C : Statement .cbBit6C := of_encode _ _ rfl rfl rfl

theorem cbBit6D : Statement .cbBit6D := of_encode _ _ rfl rfl rfl

theorem cbBit6E : Statement .cbBit6E := of_encode _ _ rfl rfl rfl

theorem cbBit6H : Statement .cbBit6H := of_encode _ _ rfl rfl rfl

theorem cbBit6L : Statement .cbBit6L := of_encode _ _ rfl rfl rfl

theorem cbBit6MemHl : Statement .cbBit6MemHl := of_encode _ _ rfl rfl rfl

theorem cbBit6A : Statement .cbBit6A := of_encode _ _ rfl rfl rfl

theorem cbBit7B : Statement .cbBit7B := of_encode _ _ rfl rfl rfl

theorem cbBit7C : Statement .cbBit7C := of_encode _ _ rfl rfl rfl

theorem cbBit7D : Statement .cbBit7D := of_encode _ _ rfl rfl rfl

theorem cbBit7E : Statement .cbBit7E := of_encode _ _ rfl rfl rfl

theorem cbBit7H : Statement .cbBit7H := of_encode _ _ rfl rfl rfl

theorem cbBit7L : Statement .cbBit7L := of_encode _ _ rfl rfl rfl

theorem cbBit7MemHl : Statement .cbBit7MemHl := of_encode _ _ rfl rfl rfl

theorem cbBit7A : Statement .cbBit7A := of_encode _ _ rfl rfl rfl

theorem cbRes0B : Statement .cbRes0B := of_encode _ _ rfl rfl rfl

theorem cbRes0C : Statement .cbRes0C := of_encode _ _ rfl rfl rfl

theorem cbRes0D : Statement .cbRes0D := of_encode _ _ rfl rfl rfl

theorem cbRes0E : Statement .cbRes0E := of_encode _ _ rfl rfl rfl

theorem cbRes0H : Statement .cbRes0H := of_encode _ _ rfl rfl rfl

theorem cbRes0L : Statement .cbRes0L := of_encode _ _ rfl rfl rfl

theorem cbRes0MemHl : Statement .cbRes0MemHl := of_encode _ _ rfl rfl rfl

theorem cbRes0A : Statement .cbRes0A := of_encode _ _ rfl rfl rfl

theorem cbRes1B : Statement .cbRes1B := of_encode _ _ rfl rfl rfl

theorem cbRes1C : Statement .cbRes1C := of_encode _ _ rfl rfl rfl

theorem cbRes1D : Statement .cbRes1D := of_encode _ _ rfl rfl rfl

theorem cbRes1E : Statement .cbRes1E := of_encode _ _ rfl rfl rfl

theorem cbRes1H : Statement .cbRes1H := of_encode _ _ rfl rfl rfl

theorem cbRes1L : Statement .cbRes1L := of_encode _ _ rfl rfl rfl

theorem cbRes1MemHl : Statement .cbRes1MemHl := of_encode _ _ rfl rfl rfl

theorem cbRes1A : Statement .cbRes1A := of_encode _ _ rfl rfl rfl

theorem cbRes2B : Statement .cbRes2B := of_encode _ _ rfl rfl rfl

theorem cbRes2C : Statement .cbRes2C := of_encode _ _ rfl rfl rfl

theorem cbRes2D : Statement .cbRes2D := of_encode _ _ rfl rfl rfl

theorem cbRes2E : Statement .cbRes2E := of_encode _ _ rfl rfl rfl

theorem cbRes2H : Statement .cbRes2H := of_encode _ _ rfl rfl rfl

theorem cbRes2L : Statement .cbRes2L := of_encode _ _ rfl rfl rfl

theorem cbRes2MemHl : Statement .cbRes2MemHl := of_encode _ _ rfl rfl rfl

theorem cbRes2A : Statement .cbRes2A := of_encode _ _ rfl rfl rfl

theorem cbRes3B : Statement .cbRes3B := of_encode _ _ rfl rfl rfl

theorem cbRes3C : Statement .cbRes3C := of_encode _ _ rfl rfl rfl

theorem cbRes3D : Statement .cbRes3D := of_encode _ _ rfl rfl rfl

theorem cbRes3E : Statement .cbRes3E := of_encode _ _ rfl rfl rfl

theorem cbRes3H : Statement .cbRes3H := of_encode _ _ rfl rfl rfl

theorem cbRes3L : Statement .cbRes3L := of_encode _ _ rfl rfl rfl

theorem cbRes3MemHl : Statement .cbRes3MemHl := of_encode _ _ rfl rfl rfl

theorem cbRes3A : Statement .cbRes3A := of_encode _ _ rfl rfl rfl

theorem cbRes4B : Statement .cbRes4B := of_encode _ _ rfl rfl rfl

theorem cbRes4C : Statement .cbRes4C := of_encode _ _ rfl rfl rfl

theorem cbRes4D : Statement .cbRes4D := of_encode _ _ rfl rfl rfl

theorem cbRes4E : Statement .cbRes4E := of_encode _ _ rfl rfl rfl

theorem cbRes4H : Statement .cbRes4H := of_encode _ _ rfl rfl rfl

theorem cbRes4L : Statement .cbRes4L := of_encode _ _ rfl rfl rfl

theorem cbRes4MemHl : Statement .cbRes4MemHl := of_encode _ _ rfl rfl rfl

theorem cbRes4A : Statement .cbRes4A := of_encode _ _ rfl rfl rfl

theorem cbRes5B : Statement .cbRes5B := of_encode _ _ rfl rfl rfl

theorem cbRes5C : Statement .cbRes5C := of_encode _ _ rfl rfl rfl

theorem cbRes5D : Statement .cbRes5D := of_encode _ _ rfl rfl rfl

theorem cbRes5E : Statement .cbRes5E := of_encode _ _ rfl rfl rfl

theorem cbRes5H : Statement .cbRes5H := of_encode _ _ rfl rfl rfl

theorem cbRes5L : Statement .cbRes5L := of_encode _ _ rfl rfl rfl

theorem cbRes5MemHl : Statement .cbRes5MemHl := of_encode _ _ rfl rfl rfl

theorem cbRes5A : Statement .cbRes5A := of_encode _ _ rfl rfl rfl

theorem cbRes6B : Statement .cbRes6B := of_encode _ _ rfl rfl rfl

theorem cbRes6C : Statement .cbRes6C := of_encode _ _ rfl rfl rfl

theorem cbRes6D : Statement .cbRes6D := of_encode _ _ rfl rfl rfl

theorem cbRes6E : Statement .cbRes6E := of_encode _ _ rfl rfl rfl

theorem cbRes6H : Statement .cbRes6H := of_encode _ _ rfl rfl rfl

theorem cbRes6L : Statement .cbRes6L := of_encode _ _ rfl rfl rfl

theorem cbRes6MemHl : Statement .cbRes6MemHl := of_encode _ _ rfl rfl rfl

theorem cbRes6A : Statement .cbRes6A := of_encode _ _ rfl rfl rfl

theorem cbRes7B : Statement .cbRes7B := of_encode _ _ rfl rfl rfl

theorem cbRes7C : Statement .cbRes7C := of_encode _ _ rfl rfl rfl

theorem cbRes7D : Statement .cbRes7D := of_encode _ _ rfl rfl rfl

theorem cbRes7E : Statement .cbRes7E := of_encode _ _ rfl rfl rfl

theorem cbRes7H : Statement .cbRes7H := of_encode _ _ rfl rfl rfl

theorem cbRes7L : Statement .cbRes7L := of_encode _ _ rfl rfl rfl

theorem cbRes7MemHl : Statement .cbRes7MemHl := of_encode _ _ rfl rfl rfl

theorem cbRes7A : Statement .cbRes7A := of_encode _ _ rfl rfl rfl

theorem cbSet0B : Statement .cbSet0B := of_encode _ _ rfl rfl rfl

theorem cbSet0C : Statement .cbSet0C := of_encode _ _ rfl rfl rfl

theorem cbSet0D : Statement .cbSet0D := of_encode _ _ rfl rfl rfl

theorem cbSet0E : Statement .cbSet0E := of_encode _ _ rfl rfl rfl

theorem cbSet0H : Statement .cbSet0H := of_encode _ _ rfl rfl rfl

theorem cbSet0L : Statement .cbSet0L := of_encode _ _ rfl rfl rfl

theorem cbSet0MemHl : Statement .cbSet0MemHl := of_encode _ _ rfl rfl rfl

theorem cbSet0A : Statement .cbSet0A := of_encode _ _ rfl rfl rfl

theorem cbSet1B : Statement .cbSet1B := of_encode _ _ rfl rfl rfl

theorem cbSet1C : Statement .cbSet1C := of_encode _ _ rfl rfl rfl

theorem cbSet1D : Statement .cbSet1D := of_encode _ _ rfl rfl rfl

theorem cbSet1E : Statement .cbSet1E := of_encode _ _ rfl rfl rfl

theorem cbSet1H : Statement .cbSet1H := of_encode _ _ rfl rfl rfl

theorem cbSet1L : Statement .cbSet1L := of_encode _ _ rfl rfl rfl

theorem cbSet1MemHl : Statement .cbSet1MemHl := of_encode _ _ rfl rfl rfl

theorem cbSet1A : Statement .cbSet1A := of_encode _ _ rfl rfl rfl

theorem cbSet2B : Statement .cbSet2B := of_encode _ _ rfl rfl rfl

theorem cbSet2C : Statement .cbSet2C := of_encode _ _ rfl rfl rfl

theorem cbSet2D : Statement .cbSet2D := of_encode _ _ rfl rfl rfl

theorem cbSet2E : Statement .cbSet2E := of_encode _ _ rfl rfl rfl

theorem cbSet2H : Statement .cbSet2H := of_encode _ _ rfl rfl rfl

theorem cbSet2L : Statement .cbSet2L := of_encode _ _ rfl rfl rfl

theorem cbSet2MemHl : Statement .cbSet2MemHl := of_encode _ _ rfl rfl rfl

theorem cbSet2A : Statement .cbSet2A := of_encode _ _ rfl rfl rfl

theorem cbSet3B : Statement .cbSet3B := of_encode _ _ rfl rfl rfl

theorem cbSet3C : Statement .cbSet3C := of_encode _ _ rfl rfl rfl

theorem cbSet3D : Statement .cbSet3D := of_encode _ _ rfl rfl rfl

theorem cbSet3E : Statement .cbSet3E := of_encode _ _ rfl rfl rfl

theorem cbSet3H : Statement .cbSet3H := of_encode _ _ rfl rfl rfl

theorem cbSet3L : Statement .cbSet3L := of_encode _ _ rfl rfl rfl

theorem cbSet3MemHl : Statement .cbSet3MemHl := of_encode _ _ rfl rfl rfl

theorem cbSet3A : Statement .cbSet3A := of_encode _ _ rfl rfl rfl

theorem cbSet4B : Statement .cbSet4B := of_encode _ _ rfl rfl rfl

theorem cbSet4C : Statement .cbSet4C := of_encode _ _ rfl rfl rfl

theorem cbSet4D : Statement .cbSet4D := of_encode _ _ rfl rfl rfl

theorem cbSet4E : Statement .cbSet4E := of_encode _ _ rfl rfl rfl

theorem cbSet4H : Statement .cbSet4H := of_encode _ _ rfl rfl rfl

theorem cbSet4L : Statement .cbSet4L := of_encode _ _ rfl rfl rfl

theorem cbSet4MemHl : Statement .cbSet4MemHl := of_encode _ _ rfl rfl rfl

theorem cbSet4A : Statement .cbSet4A := of_encode _ _ rfl rfl rfl

theorem cbSet5B : Statement .cbSet5B := of_encode _ _ rfl rfl rfl

theorem cbSet5C : Statement .cbSet5C := of_encode _ _ rfl rfl rfl

theorem cbSet5D : Statement .cbSet5D := of_encode _ _ rfl rfl rfl

theorem cbSet5E : Statement .cbSet5E := of_encode _ _ rfl rfl rfl

theorem cbSet5H : Statement .cbSet5H := of_encode _ _ rfl rfl rfl

theorem cbSet5L : Statement .cbSet5L := of_encode _ _ rfl rfl rfl

theorem cbSet5MemHl : Statement .cbSet5MemHl := of_encode _ _ rfl rfl rfl

theorem cbSet5A : Statement .cbSet5A := of_encode _ _ rfl rfl rfl

theorem cbSet6B : Statement .cbSet6B := of_encode _ _ rfl rfl rfl

theorem cbSet6C : Statement .cbSet6C := of_encode _ _ rfl rfl rfl

theorem cbSet6D : Statement .cbSet6D := of_encode _ _ rfl rfl rfl

theorem cbSet6E : Statement .cbSet6E := of_encode _ _ rfl rfl rfl

theorem cbSet6H : Statement .cbSet6H := of_encode _ _ rfl rfl rfl

theorem cbSet6L : Statement .cbSet6L := of_encode _ _ rfl rfl rfl

theorem cbSet6MemHl : Statement .cbSet6MemHl := of_encode _ _ rfl rfl rfl

theorem cbSet6A : Statement .cbSet6A := of_encode _ _ rfl rfl rfl

theorem cbSet7B : Statement .cbSet7B := of_encode _ _ rfl rfl rfl

theorem cbSet7C : Statement .cbSet7C := of_encode _ _ rfl rfl rfl

theorem cbSet7D : Statement .cbSet7D := of_encode _ _ rfl rfl rfl

theorem cbSet7E : Statement .cbSet7E := of_encode _ _ rfl rfl rfl

theorem cbSet7H : Statement .cbSet7H := of_encode _ _ rfl rfl rfl

theorem cbSet7L : Statement .cbSet7L := of_encode _ _ rfl rfl rfl

theorem cbSet7MemHl : Statement .cbSet7MemHl := of_encode _ _ rfl rfl rfl

theorem cbSet7A : Statement .cbSet7A := of_encode _ _ rfl rfl rfl

end Sys2Proof.Laws.Fetched
end

