-- ==== Sys2Proof/Laws/Sound.lean ====
section
/-! SUPPORT. Every part of a machine cycle, and every timed access, keeps a sound machine sound wherever it
goes on. `Sound` is split in two: `Rest`, which every unit keeps on its own, and `Position`, where the PPU
stands in its line, which only the PPU moves. -/

namespace Sys2Proof.Machine

/-- The part of `Sound` that does not say where the PPU stands. -/
structure Rest (s : State) : Prop where
  memory : MemorySound s
  flagsLow : s.cpu.f &&& 0x0F = 0
  dmaCursor : s.dma.active = true → s.dma.index < 160
  hdmaDst : 0x8000 ≤ s.hdma.dst.toNat ∧ s.hdma.dst.toNat ≤ 0x9FFF
  lineSprites : s.ppu.lineSprites.length ≤ 10
  fetched : s.pipe.fetched.length ≤ 3
  staging : s.pipe.spriteLo.length = 3 ∧ s.pipe.spriteHi.length = 3
  fifo : s.pipe.fifo.length ≤ 16
  dmaDelay : s.dma.delay ≤ 2
  dmaIndex : s.dma.index ≤ 160
  hdmaLength : s.hdma.remaining ≤ 2048
  hdmaBlocks : s.hdma.remaining % 16 = 0
  hdmaLeft : s.hdma.active = true → s.hdma.remaining ≠ 0
  dmgOnly : s.params.mode = .dmg → s.hdma.active = false ∧ s.mem.svbk = 0 ∧ s.draws = 0

/-- Where the PPU stands. -/
structure Position (s : State) : Prop where
  line : s.lcd.mode ≠ .vblank → s.lcd.ly.toNat < 144
  column : s.lcd.mode = .transfer → s.pipe.pushedX < 160
  vblankLine : s.lcd.mode = .vblank → 144 ≤ s.lcd.ly.toNat ∧ s.lcd.ly.toNat ≤ 153
  lineAt : LineAt s

theorem sound_iff (s : State) : Sound s ↔ Rest s ∧ Position s :=
  ⟨fun h => ⟨⟨h.memory, h.flagsLow, h.coherent.dmaCursor, h.coherent.hdmaDst, h.lineSprites, h.fetched,
      h.staging, h.fifo, h.dmaDelay, h.dmaIndex, h.hdmaLength, h.hdmaBlocks, h.hdmaLeft, h.dmgOnly⟩,
      ⟨h.coherent.line, h.coherent.column, h.vblankLine, h.lineAt⟩⟩,
    fun ⟨h, p⟩ => ⟨h.memory, h.flagsLow, ⟨h.dmaCursor, h.hdmaDst, p.line, p.column⟩, p.vblankLine,
      p.lineAt, h.lineSprites, h.fetched, h.staging, h.fifo, h.dmaDelay, h.dmaIndex, h.hdmaLength,
      h.hdmaBlocks, h.hdmaLeft, h.dmgOnly⟩⟩

/-- `Rest` reads these fields only. -/
theorem Rest.of_eq {s t : State} (h : Rest s) (params : t.params = s.params) (mem : t.mem = s.mem)
    (f : t.cpu.f = s.cpu.f) (dma : t.dma = s.dma) (hdma : t.hdma = s.hdma)
    (sprites : t.ppu.lineSprites = s.ppu.lineSprites) (pipe : t.pipe = s.pipe)
    (draws : t.draws = s.draws) : Rest t where
  memory := by
    have hm := h.memory
    exact ⟨by rw [mem]; exact hm.vram, by rw [mem]; exact hm.oam, by rw [mem, params]; exact hm.wram,
      by rw [mem]; exact hm.hram, by rw [mem]; exact hm.framebuffer⟩
  flagsLow := by rw [f]; exact h.flagsLow
  dmaCursor := by rw [dma]; exact h.dmaCursor
  hdmaDst := by rw [hdma]; exact h.hdmaDst
  lineSprites := by rw [sprites]; exact h.lineSprites
  fetched := by rw [pipe]; exact h.fetched
  staging := by rw [pipe]; exact h.staging
  fifo := by rw [pipe]; exact h.fifo
  dmaDelay := by rw [dma]; exact h.dmaDelay
  dmaIndex := by rw [dma]; exact h.dmaIndex
  hdmaLength := by rw [hdma]; exact h.hdmaLength
  hdmaBlocks := by rw [hdma]; exact h.hdmaBlocks
  hdmaLeft := by rw [hdma]; exact h.hdmaLeft
  dmgOnly := by rw [params, hdma, mem, draws]; exact h.dmgOnly

/-- `Position` reads these fields only. -/
theorem Position.of_eq {s t : State} (h : Position s) (mode : t.lcd.mode = s.lcd.mode)
    (ly : t.lcd.ly = s.lcd.ly) (ticks : t.ppu.lineTicks = s.ppu.lineTicks) (pipe : t.pipe = s.pipe) :
    Position t where
  line := by rw [mode, ly]; exact h.line
  column := by rw [mode, pipe]; exact h.column
  vblankLine := by rw [mode, ly]; exact h.vblankLine
  lineAt := by
    have hl := h.lineAt
    unfold LineAt at *
    rw [mode, ticks, pipe]
    exact hl

/-- A change of fields that soundness does not read. -/
theorem Sound.of_eq {s t : State} (h : Sound s) (params : t.params = s.params) (mem : t.mem = s.mem)
    (f : t.cpu.f = s.cpu.f) (dma : t.dma = s.dma) (hdma : t.hdma = s.hdma) (ppu : t.ppu = s.ppu)
    (pipe : t.pipe = s.pipe) (draws : t.draws = s.draws) (mode : t.lcd.mode = s.lcd.mode)
    (ly : t.lcd.ly = s.lcd.ly) : Sound t := by
  obtain ⟨hr, hp⟩ := (sound_iff s).1 h
  exact (sound_iff t).2 ⟨hr.of_eq params mem f dma hdma (by rw [ppu]) pipe draws,
    hp.of_eq mode ly (by rw [ppu]) pipe⟩

/-- The CPU's registers may change freely, but for the low nibble of F (R32). -/
theorem Sound.withCpu {s : State} (h : Sound s) (c : Cpu) (hf : c.f &&& 0x0F = 0) :
    Sound { s with cpu := c } := by
  obtain ⟨hr, hp⟩ := (sound_iff s).1 h
  refine (sound_iff _).2 ⟨?_, hp.of_eq rfl rfl rfl rfl⟩
  exact ⟨⟨hr.memory.vram, hr.memory.oam, hr.memory.wram, hr.memory.hram, hr.memory.framebuffer⟩, hf,
    hr.dmaCursor, hr.hdmaDst, hr.lineSprites, hr.fetched, hr.staging, hr.fifo, hr.dmaDelay, hr.dmaIndex,
    hr.hdmaLength, hr.hdmaBlocks, hr.hdmaLeft, hr.dmgOnly⟩

theorem Rest.warn {s : State} (h : Rest s) (a : Word) : Rest (warn a s) :=
  h.of_eq rfl rfl rfl rfl rfl rfl rfl rfl

theorem busRead_rest {s : State} (h : Rest s) (a : Word) : (busRead a s).Sat fun _ t => Rest t := by
  refine (busRead_sat a s).mono fun _ t ⟨_, ht⟩ => ?_
  rcases ht with rfl | rfl
  · exact h
  · exact h.warn a

theorem busRead_sound {s : State} (h : Sound s) (a : Word) : (busRead a s).Sat fun _ t => Sound t := by
  refine (busRead_sat a s).mono fun _ t ⟨_, ht⟩ => ?_
  rcases ht with rfl | rfl
  · exact h
  · exact h.of_eq rfl rfl rfl rfl rfl rfl rfl rfl rfl rfl

theorem request_sound {s : State} (h : Sound s) (k : Nat) : Sound (request k s) :=
  h.of_eq rfl rfl rfl rfl rfl rfl rfl rfl rfl rfl

theorem timerTick_sound {s : State} (h : Sound s) : Sound (timerTick s) := by
  unfold timerTick
  dsimp only
  split
  · split <;> exact h.of_eq rfl rfl rfl rfl rfl rfl rfl rfl rfl rfl
  · exact h.of_eq rfl rfl rfl rfl rfl rfl rfl rfl rfl rfl

/-! ## HDMA -/

/-- What `n` HDMA bytes change: video RAM, the pointers, the length, the activity; and they add events. -/
structure Copied (n : Nat) (s t : State) : Prop where
  params : t.params = s.params
  cpu : t.cpu = s.cpu
  irq : t.irq = s.irq
  dma : t.dma = s.dma
  lcd : t.lcd = s.lcd
  ppu : t.ppu = s.ppu
  pipe : t.pipe = s.pipe
  draws : t.draws = s.draws
  memory : t.mem = { s.mem with vram := t.mem.vram }
  vram : Memory.wf 0x2000 s.mem.vram = true → Memory.wf 0x2000 t.mem.vram = true
  dst : 0x8000 ≤ s.hdma.dst.toNat ∧ s.hdma.dst.toNat ≤ 0x9FFF →
    0x8000 ≤ t.hdma.dst.toNat ∧ t.hdma.dst.toNat ≤ 0x9FFF
  remaining : t.hdma.remaining = s.hdma.remaining - n
  active : t.hdma.active = (s.hdma.active && (n == 0 || decide (n < s.hdma.remaining)))

theorem hdmaCopyStep_copied (s : State) : (hdmaCopyStep s).Sat fun _ t => Copied 1 s t := by
  unfold hdmaCopyStep
  refine (busRead_sat _ s).andThen fun v t ⟨_, ht⟩ => ?_
  refine of_ite (P := fun r => Res.Sat r _) (fun hd => ?_) fun _ => sat_raise _ _ _
  have hact : (s.hdma.active && decide (s.hdma.remaining - 1 ≠ 0)) =
      (s.hdma.active && ((1 : Nat) == 0 || decide (1 < s.hdma.remaining))) := by
    congr 1
    simp only [Bool.false_or, show ((1 : Nat) == 0) = false from rfl]
    congr 1
    exact propext (by omega)
  rcases ht with rfl | rfl
  · exact ⟨rfl, rfl, rfl, rfl, rfl, rfl, rfl, rfl, rfl, Memory.wf_set (by omega) _ _,
      fun _ => vramAddress_range _, rfl, hact⟩
  · have hd' : 0x8000 ≤ s.hdma.dst.toNat ∧ s.hdma.dst.toNat ≤ 0x9FFF := hd
    exact ⟨rfl, rfl, rfl, rfl, rfl, rfl, rfl, rfl, rfl,
      Memory.wf_set (show s.hdma.dst.toNat - 0x8000 < 0x2000 by omega) _ _,
      fun _ => vramAddress_range _, rfl, hact⟩

theorem Copied.refl (s : State) : Copied 0 s s :=
  ⟨rfl, rfl, rfl, rfl, rfl, rfl, rfl, rfl, rfl, id, id, rfl, by simp⟩

theorem Copied.step {n : Nat} {s t u : State} (h : Copied 1 s t) (k : Copied n t u) :
    Copied (n + 1) s u where
  params := k.params.trans h.params
  cpu := k.cpu.trans h.cpu
  irq := k.irq.trans h.irq
  dma := k.dma.trans h.dma
  lcd := k.lcd.trans h.lcd
  ppu := k.ppu.trans h.ppu
  pipe := k.pipe.trans h.pipe
  draws := k.draws.trans h.draws
  memory := by
    have hk := k.memory
    rw [h.memory] at hk
    exact hk
  vram := fun hv => k.vram (h.vram hv)
  dst := fun hd => k.dst (h.dst hd)
  remaining := by rw [k.remaining, h.remaining]; omega
  active := by
    rw [k.active, h.active, h.remaining, Bool.and_assoc]
    congr 1
    rw [Bool.eq_iff_iff]
    simp
    omega

/-- `n` HDMA bytes in a row (R478). -/
theorem hdmaCopy_copied (n : Nat) (s : State) :
    (Res.repeat hdmaCopyStep n s).Sat fun _ t => Copied n s t :=
  Res.sat_repeat Copied.refl
    (fun _ s => (hdmaCopyStep_copied s).mono fun _ _ ht _ hu => ht.step hu) n s

/-- Whole blocks copied keep the rest sound. -/
theorem Copied.rest {n : Nat} {s t : State} (k : Copied n s t) (h : Rest s) (hn : n % 16 = 0)
    (hl : n ≤ s.hdma.remaining) (hm : s.params.mode = .dmg → t.hdma.active = false) : Rest t where
  memory := by
    have hm := h.memory
    have e := k.memory
    exact ⟨k.vram hm.vram, by rw [e]; exact hm.oam, by rw [e, k.params]; exact hm.wram,
      by rw [e]; exact hm.hram, by rw [e]; exact hm.framebuffer⟩
  flagsLow := by rw [k.cpu]; exact h.flagsLow
  dmaCursor := by rw [k.dma]; exact h.dmaCursor
  hdmaDst := k.dst h.hdmaDst
  lineSprites := by rw [k.ppu]; exact h.lineSprites
  fetched := by rw [k.pipe]; exact h.fetched
  staging := by rw [k.pipe]; exact h.staging
  fifo := by rw [k.pipe]; exact h.fifo
  dmaDelay := by rw [k.dma]; exact h.dmaDelay
  dmaIndex := by rw [k.dma]; exact h.dmaIndex
  hdmaLength := by rw [k.remaining]; have := h.hdmaLength; omega
  hdmaBlocks := by rw [k.remaining]; have := h.hdmaBlocks; omega
  hdmaLeft ha := by
    rw [k.active] at ha
    rw [k.remaining]
    simp only [Bool.and_eq_true, Bool.or_eq_true, beq_iff_eq, decide_eq_true_eq] at ha
    have := h.hdmaLeft ha.1
    omega
  dmgOnly hd := by
    rw [k.params] at hd
    have e := k.memory
    exact ⟨hm hd, by rw [e]; exact (h.dmgOnly hd).2.1, by rw [k.draws]; exact (h.dmgOnly hd).2.2⟩

/-- The HBlank block (R475). -/
theorem hdmaHblankBlock_rest {s : State} (h : Rest s) :
    (hdmaHblankBlock s).Sat fun _ t => Rest t ∧ t.lcd = s.lcd ∧ t.ppu = s.ppu ∧ t.pipe = s.pipe := by
  unfold hdmaHblankBlock
  split
  · rename_i hc
    simp only [Bool.and_eq_true, beq_iff_eq] at hc
    have hb := h.hdmaBlocks
    have hl := h.hdmaLeft hc.1.2
    refine (hdmaCopy_copied 16 s).mono fun _ t k => ⟨k.rest h rfl (by omega) fun hd => ?_, k.lcd, k.ppu, k.pipe⟩
    rw [hc.1.1] at hd
    exact absurd hd (by decide)
  · exact ⟨h, rfl, rfl, rfl⟩

/-! ## The PPU -/

/-- Entering a mode: the rest stays sound, the line and its tick stay, the pipeline is started by mode 3 and
untouched by the others. -/
theorem enterMode_rest (m : PpuMode) {s : State} (h : Rest s) :
    (enterMode m s).Sat fun _ t => Rest t ∧ t.lcd.mode = m ∧ t.lcd.ly = s.lcd.ly ∧
      t.ppu.lineTicks = s.ppu.lineTicks ∧
      t.pipe = (if m = .transfer then (startTransfer s).pipe else s.pipe) := by
  have finish : ∀ t : State, Rest t → t.lcd.mode = m → t.lcd.ly = s.lcd.ly →
      t.ppu.lineTicks = s.ppu.lineTicks →
      t.pipe = (if m = .transfer then (startTransfer s).pipe else s.pipe) →
      Rest (updateCoincidence t) ∧ (updateCoincidence t).lcd.mode = m ∧
        (updateCoincidence t).lcd.ly = s.lcd.ly ∧
        (updateCoincidence t).ppu.lineTicks = s.ppu.lineTicks ∧
        (updateCoincidence t).pipe = (if m = .transfer then (startTransfer s).pipe else s.pipe) := by
    intro t h1 h2 h3 h4 h5
    rw [updateCoincidence_eq]
    exact ⟨h1.of_eq rfl rfl rfl rfl rfl rfl rfl rfl, h2, h3, h4, h5⟩
  unfold enterMode
  cases m with
  | hblank =>
    obtain ⟨q, hq⟩ : ∃ q, statRequest 3 { s with lcd := { s.lcd with mode := .hblank } } =
        { s with lcd := { s.lcd with mode := .hblank }, irq := q } := ⟨_, statRequest_eq _ _⟩
    simp only [modeEntry, hq]
    have hr : Rest { s with lcd := { s.lcd with mode := .hblank }, irq := q } :=
      h.of_eq rfl rfl rfl rfl rfl rfl rfl rfl
    refine (hdmaHblankBlock_rest hr).andThen fun _ t ⟨h1, h2, h3, h4⟩ => ?_
    exact finish t h1 (by rw [h2]) (by rw [h2]) (by rw [h3]) (by rw [h4]; rfl)
  | vblank =>
    simp only [modeEntry, statRequest_eq, Res.andThen_ok]
    exact finish _ (h.of_eq rfl rfl rfl rfl rfl rfl rfl rfl) rfl rfl rfl rfl
  | oamScan =>
    simp only [modeEntry, statRequest_eq, Res.andThen_ok]
    exact finish _ (h.of_eq rfl rfl rfl rfl rfl rfl rfl rfl) rfl rfl rfl rfl
  | transfer =>
    simp only [modeEntry, Res.andThen_ok]
    refine finish _ ?_ rfl rfl rfl rfl
    exact ⟨⟨h.memory.vram, h.memory.oam, h.memory.wram, h.memory.hram, h.memory.framebuffer⟩, h.flagsLow,
      h.dmaCursor, h.hdmaDst, h.lineSprites, by simp [startTransfer], h.staging, by simp [startTransfer],
      h.dmaDelay, h.dmaIndex, h.hdmaLength, h.hdmaBlocks, h.hdmaLeft, h.dmgOnly⟩

/-- A transfer starts at its beginning (R531). -/
theorem pipelineAt_start (s : State) : PipelineAt 0 (startTransfer s).pipe :=
  ⟨rfl, rfl, rfl, rfl, rfl, by simp [startTransfer, poppedAfter]⟩

theorem length_filter_take {α : Type} (p : α → Bool) (l : List α) (n : Nat) :
    ((l.filter p).take n).length ≤ n := by simp

theorem length_insertByX (sp : Sprite) (l : List Sprite) : (insertByX sp l).length = l.length + 1 := by
  induction l with
  | nil => rfl
  | cons t rest ih =>
    simp only [insertByX]
    split <;> simp [ih]

theorem length_sortByX (l : List Sprite) : (sortByX l).length = l.length := by
  have h : ∀ (l acc : List Sprite),
      (l.foldl (fun acc sp => insertByX sp acc) acc).length = acc.length + l.length := by
    intro l
    induction l with
    | nil => simp
    | cons t rest ih =>
      intro acc
      simp only [List.foldl_cons, List.length_cons]
      rw [ih, length_insertByX]
      omega
  exact (h l []).trans (by simp)

/-- At most 10 sprites on a line (R507). -/
theorem length_selectSprites (s : State) : (selectSprites s).length ≤ 10 := by
  unfold selectSprites
  dsimp only
  split
  · rw [length_sortByX]
    exact length_filter_take _ _ _
  · exact length_filter_take _ _ _

/-- One tick of mode 2 (R501). -/
theorem oamScanTick_sound {s : State} (hr : Rest s) (hm : s.lcd.mode = .oamScan)
    (hl : s.lcd.ly.toNat < 144) (ht : s.ppu.lineTicks ≤ 80) :
    (oamScanTick s).Sat fun _ t => Sound t := by
  have hf : Rest (if s.ppu.lineTicks = 1 then oamScan s else s) ∧
      (if s.ppu.lineTicks = 1 then oamScan s else s).lcd = s.lcd ∧
      (if s.ppu.lineTicks = 1 then oamScan s else s).ppu.lineTicks = s.ppu.lineTicks := by
    split
    · refine ⟨?_, rfl, rfl⟩
      exact ⟨⟨hr.memory.vram, hr.memory.oam, hr.memory.wram, hr.memory.hram, hr.memory.framebuffer⟩,
        hr.flagsLow, hr.dmaCursor, hr.hdmaDst, length_selectSprites s, hr.fetched, hr.staging, hr.fifo,
        hr.dmaDelay, hr.dmaIndex, hr.hdmaLength, hr.hdmaBlocks, hr.hdmaLeft, hr.dmgOnly⟩
    · exact ⟨hr, rfl, rfl⟩
  unfold oamScanTick
  dsimp only
  generalize (if s.ppu.lineTicks = 1 then oamScan s else s) = f at hf ⊢
  obtain ⟨f1, f2, f3⟩ := hf
  refine of_ite (P := fun r => Res.Sat r _) (fun h80 => ?_) fun h80 => ?_
  · refine (enterMode_rest .transfer f1).mono fun _ t ⟨h1, h2, h3, h4, h5⟩ => ?_
    rw [if_pos rfl] at h5
    refine (sound_iff t).2 ⟨h1, fun _ => by rw [h3, f2]; exact hl, fun _ => ?_, fun h => ?_, ?_⟩
    · rw [h5]
      simp [startTransfer]
    · rw [h2] at h
      exact absurd h (by decide)
    · unfold LineAt
      rw [h2, h4, h80, h5]
      exact ⟨le_rfl, pipelineAt_start f⟩
  · have hm' : f.lcd.mode = .oamScan := by rw [f2, hm]
    refine (sound_iff f).2 ⟨f1, fun _ => by rw [f2]; exact hl, fun h => ?_, fun h => ?_, ?_⟩
    · rw [hm'] at h
      exact absurd h (by decide)
    · rw [hm'] at h
      exact absurd h (by decide)
    · unfold LineAt
      rw [hm']
      show f.ppu.lineTicks < 80
      omega

/-- The end of a visible line (R503). -/
theorem endLine_sound {s : State} (hr : Rest s) (hl : s.lcd.ly.toNat < 144) :
    (endLine s).Sat fun _ t => Sound t := by
  have h1 : (s.lcd.ly + 1).toNat = s.lcd.ly.toNat + 1 := by
    rw [BitVec.toNat_add]
    have : (1 : Byte).toNat = 1 := rfl
    omega
  unfold endLine
  dsimp only
  refine of_ite (P := fun r => Res.Sat r _) (fun he => ?_) fun he => ?_
  · refine (enterMode_rest .vblank ?_).mono fun _ t ⟨k1, k2, k3, k4, k5⟩ => ?_
    · exact hr.of_eq rfl rfl rfl rfl rfl rfl rfl rfl
    have e : t.lcd.ly.toNat = 144 := by rw [k3]; show (s.lcd.ly + 1).toNat = 144; rw [he]; rfl
    refine (sound_iff t).2 ⟨k1, fun h => absurd k2 h, fun h => ?_, fun _ => by omega, ?_⟩
    · rw [k2] at h
      exact absurd h (by decide)
    · unfold LineAt
      rw [k2, k4]
      exact (by decide : 0 < 456)
  · refine (enterMode_rest .oamScan ?_).mono fun _ t ⟨k1, k2, k3, k4, k5⟩ => ?_
    · exact hr.of_eq rfl rfl rfl rfl rfl rfl rfl rfl
    have e : t.lcd.ly.toNat = s.lcd.ly.toNat + 1 := by rw [k3]; exact h1
    have ne : (s.lcd.ly + 1).toNat ≠ 144 := fun e => he (BitVec.eq_of_toNat_eq e)
    refine (sound_iff t).2 ⟨k1, fun _ => by omega, fun h => ?_, fun h => ?_, ?_⟩
    · rw [k2] at h
      exact absurd h (by decide)
    · rw [k2] at h
      exact absurd h (by decide)
    · unfold LineAt
      rw [k2, k4]
      exact (by decide : 0 < 80)

/-- The end of a VBlank line (R505). -/
theorem endVblankLine_sound {s : State} (hr : Rest s) (hm : s.lcd.mode = .vblank)
    (hl : 144 ≤ s.lcd.ly.toNat ∧ s.lcd.ly.toNat ≤ 153) : (endVblankLine s).Sat fun _ t => Sound t := by
  have h1 : (s.lcd.ly + 1).toNat = s.lcd.ly.toNat + 1 := by
    rw [BitVec.toNat_add]
    have : (1 : Byte).toNat = 1 := rfl
    omega
  unfold endVblankLine
  dsimp only
  refine of_ite (P := fun r => Res.Sat r _) (fun he => ?_) fun he => ?_
  · refine (enterMode_rest .oamScan ?_).mono fun _ t ⟨k1, k2, k3, k4, k5⟩ => ?_
    · exact hr.of_eq rfl rfl rfl rfl rfl rfl rfl rfl
    have e : t.lcd.ly.toNat = 0 := by rw [k3]; rfl
    refine (sound_iff t).2 ⟨k1, fun _ => by omega, fun h => ?_, fun h => ?_, ?_⟩
    · rw [k2] at h
      exact absurd h (by decide)
    · rw [k2] at h
      exact absurd h (by decide)
    · unfold LineAt
      rw [k2, k4]
      exact (by decide : 0 < 80)
  · have ne : (s.lcd.ly + 1).toNat ≠ 154 := fun e => he (BitVec.eq_of_toNat_eq e)
    rw [updateCoincidence_eq]
    refine (sound_iff _).2 ⟨hr.of_eq rfl rfl rfl rfl rfl rfl rfl rfl, fun h => absurd hm h, fun h => ?_,
      fun _ => ⟨?_, ?_⟩, ?_⟩
    · have : PpuMode.vblank = .transfer := hm.symm.trans h
      exact absurd this (by decide)
    · show 144 ≤ (s.lcd.ly + 1).toNat
      omega
    · show (s.lcd.ly + 1).toNat ≤ 153
      omega
    · unfold LineAt
      show match s.lcd.mode with | .oamScan => _ | .transfer => _ | .hblank => _ | .vblank => _
      rw [hm]
      exact (by decide : 0 < 456)

/-! ## The pixel pipeline -/

/-- The fetch part of a transfer tick: `n` ticks in, one more tick, before the FIFO pops. -/
structure FetchedAt (n : Nat) (p : Pipeline) : Prop where
  state : p.fetchState.ordinal = (n + 1) % 10 / 2
  fetchX : p.fetchX = 8 * ((n + 1 + 8) / 10)
  fifoX : p.fifoX = 8 * ((n + 1) / 10)
  lineX : p.lineX = poppedAfter n
  fifo : p.fifo.length = 8 * ((n + 1) / 10) - poppedAfter n
  pushedX : p.pushedX = poppedAfter n - p.scxFine.toNat

theorem poppedAfter_le (n : Nat) : poppedAfter n ≤ 8 * (n / 10) := by
  unfold poppedAfter
  split <;> omega

/-- Pixels popped by one more tick: one while more than 8 are left after the push of that tick. -/
theorem poppedAfter_succ (n : Nat) : poppedAfter (n + 1) =
    poppedAfter n + (if 8 * ((n + 1) / 10) - poppedAfter n > 8 then 1 else 0) := by
  unfold poppedAfter
  split <;> split <;> split <;> omega

theorem tileStep_fields (s : State) : (tileStep s).pipe.fetchState = .data0 ∧
    (tileStep s).pipe.fetchX = s.pipe.fetchX + 8 ∧ (tileStep s).pipe.fifoX = s.pipe.fifoX ∧
    (tileStep s).pipe.lineX = s.pipe.lineX ∧ (tileStep s).pipe.fifo = s.pipe.fifo ∧
    (tileStep s).pipe.pushedX = s.pipe.pushedX ∧ (tileStep s).pipe.scxFine = s.pipe.scxFine ∧
    (tileStep s).pipe.spriteLo = s.pipe.spriteLo ∧ (tileStep s).pipe.spriteHi = s.pipe.spriteHi ∧
    (tileStep s).pipe.fetched.length ≤ 3 := by
  have hc : (collectSprites s).length ≤ 3 := by
    unfold collectSprites
    split
    · exact length_filter_take _ _ _
    · simp
  unfold tileStep
  dsimp only
  split <;> exact ⟨rfl, rfl, rfl, rfl, rfl, rfl, rfl, rfl, rfl, hc⟩

theorem length_overlay (new old : List Byte) (h : new.length ≤ old.length) :
    (overlay new old).length = old.length := by
  unfold overlay
  simp
  omega

/-- The fetch of a tick keeps the lists inside their bounds. -/
theorem fetchStep_rest {s : State} (h : Rest s) : Rest (fetchStep s) := by
  have mk : ∀ t : State, t.params = s.params → t.mem = s.mem → t.cpu = s.cpu → t.dma = s.dma →
      t.hdma = s.hdma → t.ppu.lineSprites = s.ppu.lineSprites → t.draws = s.draws →
      t.pipe.fetched.length ≤ 3 → t.pipe.spriteLo.length = 3 ∧ t.pipe.spriteHi.length = 3 →
      t.pipe.fifo.length ≤ 16 → Rest t := by
    intro t e1 e2 e3 e4 e5 e6 e7 l1 l2 l3
    have hm := h.memory
    exact ⟨⟨by rw [e2]; exact hm.vram, by rw [e2]; exact hm.oam, by rw [e1, e2]; exact hm.wram,
      by rw [e2]; exact hm.hram, by rw [e2]; exact hm.framebuffer⟩, by rw [e3]; exact h.flagsLow,
      by rw [e4]; exact h.dmaCursor, by rw [e5]; exact h.hdmaDst, by rw [e6]; exact h.lineSprites, l1, l2,
      l3, by rw [e4]; exact h.dmaDelay, by rw [e4]; exact h.dmaIndex, by rw [e5]; exact h.hdmaLength,
      by rw [e5]; exact h.hdmaBlocks, by rw [e5]; exact h.hdmaLeft,
      by rw [e1, e2, e5, e7]; exact h.dmgOnly⟩
  have hf := h.fetched
  have hs := h.staging
  obtain ⟨p, w, he⟩ := fetchStep_eq s
  have e : fetchStep s = { s with pipe := p, ppu := { s.ppu with windowDrawn := w } } := he
  rw [e]
  have hp : p = (fetchStep s).pipe := by rw [e]
  refine mk _ rfl rfl rfl rfl rfl rfl rfl ?_ ?_ ?_ <;> show _ <;> simp only [hp] <;> unfold fetchStep
  · split
    · exact (tileStep_fields s).2.2.2.2.2.2.2.2.2
    · exact hf
    · exact hf
    · exact hf
    · unfold pushStep
      split <;> exact hf
  · split
    · obtain ⟨_, _, _, _, _, _, _, e1, e2, _⟩ := tileStep_fields s
      rw [e1, e2]
      exact hs
    · refine ⟨?_, hs.2⟩
      exact (length_overlay _ _ (by simp; omega)).trans hs.1
    · refine ⟨hs.1, ?_⟩
      exact (length_overlay _ _ (by simp; omega)).trans hs.2
    · exact hs
    · unfold pushStep
      split <;> exact hs
  · split
    · obtain ⟨_, _, _, _, e1, _⟩ := tileStep_fields s
      rw [e1]
      exact h.fifo
    · exact h.fifo
    · exact h.fifo
    · exact h.fifo
    · unfold pushStep
      split
      · exact h.fifo
      · simp
        omega

/-- The fetch part of a transfer tick (R532, R539): a fetch step on every second tick. -/
theorem fetchStep_at {n : Nat} {s : State} (h : PipelineAt n s.pipe) :
    FetchedAt n (if (n + 1) % 2 = 0 then fetchStep s else s).pipe := by
  have hpop := poppedAfter_le n
  have hst := h.state
  split
  · rename_i hodd
    unfold fetchStep
    cases hf : s.pipe.fetchState <;> rw [hf] at hst <;> simp only [FetchState.ordinal] at hst <;>
      dsimp only
    · obtain ⟨e1, e2, e3, e4, e5, e6, e7, _⟩ := tileStep_fields s
      have hd : (n + 1) / 10 = n / 10 := by omega
      refine ⟨?_, ?_, ?_, ?_, ?_, ?_⟩
      · rw [e1]; simp only [FetchState.ordinal]; omega
      · rw [e2, h.fetchX]; omega
      · rw [e3, h.fifoX, hd]
      · rw [e4, h.lineX]
      · rw [e5, h.fifo, hd]
      · rw [e6, e7, h.pushedX]
    · have hd : (n + 1) / 10 = n / 10 := by omega
      refine ⟨?_, ?_, ?_, h.lineX, ?_, h.pushedX⟩
      · simp only [data0Step, FetchState.ordinal]; omega
      · exact h.fetchX.trans (by omega)
      · exact h.fifoX.trans (by rw [hd])
      · exact h.fifo.trans (by rw [hd])
    · have hd : (n + 1) / 10 = n / 10 := by omega
      refine ⟨?_, ?_, ?_, h.lineX, ?_, h.pushedX⟩
      · simp only [data1Step, FetchState.ordinal]; omega
      · exact h.fetchX.trans (by omega)
      · exact h.fifoX.trans (by rw [hd])
      · exact h.fifo.trans (by rw [hd])
    · have hd : (n + 1) / 10 = n / 10 := by omega
      refine ⟨?_, ?_, ?_, h.lineX, ?_, h.pushedX⟩
      · simp only [FetchState.ordinal]; omega
      · exact h.fetchX.trans (by omega)
      · exact h.fifoX.trans (by rw [hd])
      · exact h.fifo.trans (by rw [hd])
    · have hd : (n + 1) / 10 = n / 10 + 1 := by omega
      have hlen : ¬ s.pipe.fifo.length > 8 := by
        rw [h.fifo]
        unfold poppedAfter
        split <;> omega
      unfold pushStep
      rw [if_neg hlen]
      refine ⟨?_, ?_, ?_, h.lineX, ?_, h.pushedX⟩
      · simp only [FetchState.ordinal]; omega
      · exact h.fetchX.trans (by omega)
      · show s.pipe.fifoX + 8 = _
        rw [h.fifoX, hd]
        omega
      · simp only [List.length_append, List.length_map, List.length_range]
        rw [h.fifo, hd]
        omega
  · rename_i heven
    have hd : (n + 1) / 10 = n / 10 := by omega
    exact ⟨by rw [h.state]; omega, by rw [h.fetchX]; omega, by rw [h.fifoX, hd], h.lineX,
      by rw [h.fifo, hd], h.pushedX⟩

/-- A drawn pixel (R543). -/
theorem drawPixel_rest {s : State} (h : Rest s) (px : Pixel) :
    (drawPixel px s).Sat fun _ t => Rest t ∧ t.lcd = s.lcd ∧ t.ppu = s.ppu ∧
      t.pipe = { s.pipe with pushedX := s.pipe.pushedX + 1 } := by
  unfold drawPixel
  dsimp only
  refine of_ite (P := fun r => Res.Sat r _) (fun hc => ?_) fun _ => sat_raise _ _ _
  refine ⟨?_, rfl, rfl, rfl⟩
  have hm := h.memory
  refine ⟨⟨hm.vram, hm.oam, hm.wram, hm.hram, ?_⟩, h.flagsLow, h.dmaCursor, h.hdmaDst, h.lineSprites,
    h.fetched, h.staging, h.fifo, h.dmaDelay, h.dmaIndex, h.hdmaLength, h.hdmaBlocks, h.hdmaLeft, ?_⟩
  · exact Cells.wf_set (by omega) _ _ hm.framebuffer
  · intro hd
    have hd' : s.params.mode = .dmg := hd
    have := h.dmgOnly hd'
    refine ⟨this.1, this.2.1, ?_⟩
    simp only [hd']
    exact this.2.2

/-- The pop part of a transfer tick (R543). -/
theorem popStep_at {n : Nat} {s : State} (hr : Rest s) (h : FetchedAt n s.pipe) :
    (popStep s).Sat fun _ t => Rest t ∧ t.lcd = s.lcd ∧ t.ppu = s.ppu ∧ PipelineAt (n + 1) t.pipe := by
  have hsucc := poppedAfter_succ n
  have hlen := h.fifo
  have hle := poppedAfter_le n
  rw [← hlen] at hsucc
  unfold popStep
  split
  · rename_i hn
    refine ⟨hr, rfl, rfl, h.state, h.fetchX, h.fifoX, ?_, ?_, ?_⟩
    · rw [hsucc, hn]; simpa using h.lineX
    · rw [hsucc, hn]; simpa [hn] using hlen
    · rw [hsucc, hn]; simpa using h.pushedX
  · rename_i px rest hc
    have hl : s.pipe.fifo.length = rest.length + 1 := by rw [hc]; rfl
    refine of_ite (P := fun r => Res.Sat r _) (fun h8 => ?_) fun h8 => ?_
    · rw [if_pos h8] at hsucc
      have hr' : Rest { s with pipe := { s.pipe with fifo := rest } } := by
        have hf := hr.fifo
        exact ⟨⟨hr.memory.vram, hr.memory.oam, hr.memory.wram, hr.memory.hram, hr.memory.framebuffer⟩,
          hr.flagsLow, hr.dmaCursor, hr.hdmaDst, hr.lineSprites, hr.fetched, hr.staging,
          (by omega : rest.length ≤ 16), hr.dmaDelay, hr.dmaIndex, hr.hdmaLength, hr.hdmaBlocks, hr.hdmaLeft,
          hr.dmgOnly⟩
      have fin : ∀ t : State, Rest t → t.lcd = s.lcd → t.ppu = s.ppu →
          t.pipe = { s.pipe with
            fifo := rest, pushedX := poppedAfter (n + 1) - s.pipe.scxFine.toNat } →
          Rest { t with pipe := { t.pipe with lineX := t.pipe.lineX + 1 } } ∧ t.lcd = s.lcd ∧
            t.ppu = s.ppu ∧ PipelineAt (n + 1) { t.pipe with lineX := t.pipe.lineX + 1 } := by
        intro t ht e1 e2 e3
        refine ⟨⟨⟨ht.memory.vram, ht.memory.oam, ht.memory.wram, ht.memory.hram, ht.memory.framebuffer⟩,
          ht.flagsLow, ht.dmaCursor, ht.hdmaDst, ht.lineSprites, ht.fetched, ht.staging, ht.fifo,
          ht.dmaDelay, ht.dmaIndex, ht.hdmaLength, ht.hdmaBlocks, ht.hdmaLeft, ht.dmgOnly⟩, e1, e2, ?_⟩
        rw [e3]
        refine ⟨h.state, h.fetchX, h.fifoX, ?_, ?_, rfl⟩
        · show s.pipe.lineX + 1 = _
          rw [h.lineX, hsucc]
        · show rest.length = _
          omega
      dsimp only
      split
      · rename_i hx
        have hx' : s.pipe.scxFine.toNat ≤ s.pipe.lineX := hx
        refine (drawPixel_rest hr' px).andThen fun _ t ⟨k1, k2, k3, k4⟩ => ?_
        refine fin t k1 k2 k3 ?_
        rw [k4, hsucc]
        have : s.pipe.pushedX + 1 = poppedAfter n + 1 - s.pipe.scxFine.toNat := by
          rw [h.pushedX]
          rw [h.lineX] at hx'
          omega
        simp only [this]
      · rename_i hx
        have hx' : ¬ s.pipe.scxFine.toNat ≤ s.pipe.lineX := hx
        refine fin { s with pipe := { s.pipe with fifo := rest } } hr' rfl rfl ?_
        have : s.pipe.pushedX = poppedAfter (n + 1) - s.pipe.scxFine.toNat := by
          rw [h.pushedX, hsucc]
          rw [h.lineX] at hx'
          omega
        rw [← this]
    · rw [if_neg h8] at hsucc
      exact ⟨hr, rfl, rfl, h.state, h.fetchX, h.fifoX, by rw [hsucc]; exact h.lineX,
        by rw [hsucc]; exact h.fifo, by rw [hsucc]; exact h.pushedX⟩

/-- A transfer that drew its last pixel is far from the end of its line (R546). -/
theorem transfer_bound {n : Nat} {p : Pipeline} (h : PipelineAt n p) (hp : p.pushedX ≤ 160) : n < 240 := by
  have hx := h.pushedX
  have hs := p.scxFine.isLt
  unfold poppedAfter at hx
  split at hx <;> omega

/-- One tick of mode 3 (R502). -/
theorem transferTick_sound {n : Nat} {s : State} (hr : Rest s) (hm : s.lcd.mode = .transfer)
    (hl : s.lcd.ly.toNat < 144) (ht : s.ppu.lineTicks = 80 + n + 1) (hp : PipelineAt n s.pipe)
    (hc : s.pipe.pushedX < 160) : (transferTick s).Sat fun _ t => Sound t := by
  have hpar : s.ppu.lineTicks % 2 = (n + 1) % 2 := by omega
  unfold transferTick pipelineTick
  rw [hpar]
  have hf := fetchStep_at hp
  have hg : Rest (if (n + 1) % 2 = 0 then fetchStep s else s) ∧
      (if (n + 1) % 2 = 0 then fetchStep s else s).lcd = s.lcd ∧
      (if (n + 1) % 2 = 0 then fetchStep s else s).ppu.lineTicks = s.ppu.lineTicks ∧
      (if (n + 1) % 2 = 0 then fetchStep s else s).pipe.pushedX = s.pipe.pushedX := by
    split
    · refine ⟨fetchStep_rest hr, ?_, ?_, (fetchStep_pushedX s).1⟩
      · obtain ⟨p, w, e⟩ := fetchStep_eq s
        rw [e]
      · obtain ⟨p, w, e⟩ := fetchStep_eq s
        rw [e]
    · exact ⟨hr, rfl, rfl, rfl⟩
  generalize (if (n + 1) % 2 = 0 then fetchStep s else s) = f at hf hg ⊢
  obtain ⟨g1, g2, g3, g4⟩ := hg
  have hsmall : (popStep f).Sat fun _ t => t.pipe.pushedX ≤ 160 := by
    obtain ⟨_, t, e, _, _, _, _, h5⟩ := popStep_done (s := f) (by rw [g2]; exact hl) (by rw [g4]; exact hc)
    rw [e]
    exact h5
  refine ((popStep_at g1 hf).and hsmall).andThen fun _ t ⟨⟨k1, k2, k3, k4⟩, k5⟩ => ?_
  have hb := transfer_bound k4 k5
  have hly : t.lcd.ly.toNat < 144 := by rw [k2, g2]; exact hl
  have hti : t.ppu.lineTicks = 80 + (n + 1) := by rw [k3, g3, ht, Nat.add_assoc]
  refine of_ite (P := fun r => Res.Sat r _) (fun _ => ?_) fun hx => ?_
  · unfold endTransfer
    refine (enterMode_rest .hblank (s := { t with pipe := { t.pipe with fifo := [] } }) ?_).mono
      fun _ u ⟨j1, j2, j3, j4, j5⟩ => ?_
    · exact ⟨⟨k1.memory.vram, k1.memory.oam, k1.memory.wram, k1.memory.hram, k1.memory.framebuffer⟩,
        k1.flagsLow, k1.dmaCursor, k1.hdmaDst, k1.lineSprites, k1.fetched, k1.staging, Nat.zero_le _,
        k1.dmaDelay, k1.dmaIndex, k1.hdmaLength, k1.hdmaBlocks, k1.hdmaLeft, k1.dmgOnly⟩
    have e : u.ppu.lineTicks = 80 + (n + 1) := j4.trans hti
    refine (sound_iff u).2 ⟨j1, fun _ => by rw [j3]; exact hly, fun h => ?_, fun h => ?_, ?_⟩
    · rw [j2] at h
      exact absurd h (by decide)
    · rw [j2] at h
      exact absurd h (by decide)
    · unfold LineAt
      rw [j2, e]
      show 80 + (n + 1) < 456
      omega
  · have hm' : t.lcd.mode = .transfer := by rw [k2, g2, hm]
    refine (sound_iff t).2 ⟨k1, fun _ => hly, fun _ => by omega, fun h => ?_, ?_⟩
    · rw [hm'] at h
      exact absurd h (by decide)
    · unfold LineAt
      rw [hm', hti]
      exact ⟨by omega, by rw [Nat.add_sub_cancel_left]; exact k4⟩

/-- The PPU's tick (R498). -/
theorem ppuTick_sound {s : State} (h : Sound s) : (ppuTick s).Sat fun _ t => Sound t := by
  obtain ⟨hr, hp⟩ := (sound_iff s).1 h
  have hla := hp.lineAt
  unfold ppuTick
  split
  · exact h
  · dsimp only
    have hr' : Rest { s with ppu := { s.ppu with lineTicks := s.ppu.lineTicks + 1 } } :=
      hr.of_eq rfl rfl rfl rfl rfl rfl rfl rfl
    unfold LineAt at hla
    split <;> rename_i hm <;> rw [hm] at hla <;> dsimp only at hla
    · exact oamScanTick_sound hr' hm (hp.line (by rw [hm]; decide))
        (by show s.ppu.lineTicks + 1 ≤ 80; omega)
    · exact transferTick_sound (n := s.ppu.lineTicks - 80) hr' hm (hp.line (by rw [hm]; decide))
        (by show s.ppu.lineTicks + 1 = _; omega) hla.2 (hp.column hm)
    · have hly := hp.line (by rw [hm]; decide)
      refine of_ite (P := fun r => Res.Sat r _) (fun _ => endLine_sound hr' hly) fun hn => ?_
      refine (sound_iff _).2 ⟨hr', fun _ => hly, fun x => ?_, fun x => ?_, ?_⟩
      · have : PpuMode.hblank = .transfer := hm.symm.trans x
        exact absurd this (by decide)
      · have : PpuMode.hblank = .vblank := hm.symm.trans x
        exact absurd this (by decide)
      · unfold LineAt
        show match s.lcd.mode with | .oamScan => _ | .transfer => _ | .hblank => _ | .vblank => _
        rw [hm]
        show s.ppu.lineTicks + 1 < 456
        have : ¬ s.ppu.lineTicks + 1 = 456 := hn
        omega
    · have hly := hp.vblankLine hm
      refine of_ite (P := fun r => Res.Sat r _) (fun _ => endVblankLine_sound hr' hm hly) fun hn => ?_
      refine (sound_iff _).2 ⟨hr', fun x => absurd hm x, fun x => ?_, fun _ => hly, ?_⟩
      · have : PpuMode.vblank = .transfer := hm.symm.trans x
        exact absurd this (by decide)
      · unfold LineAt
        show match s.lcd.mode with | .oamScan => _ | .transfer => _ | .hblank => _ | .vblank => _
        rw [hm]
        show s.ppu.lineTicks + 1 < 456
        have : ¬ s.ppu.lineTicks + 1 = 456 := hn
        omega

/-! ## The machine cycle -/

/-- OAM DMA's step (R462). -/
theorem dmaStep_sound {s : State} (h : Sound s) : (dmaStep s).Sat fun _ t => Sound t := by
  have hd := h.dmaDelay
  unfold dmaStep
  split
  · exact h
  · rename_i ha
    have ha' : s.dma.active = true := by simpa using ha
    have hi := h.coherent.dmaCursor ha'
    split
    · obtain ⟨hr, hp⟩ := (sound_iff s).1 h
      refine (sound_iff _).2 ⟨?_, hp.of_eq rfl rfl rfl rfl⟩
      exact ⟨⟨hr.memory.vram, hr.memory.oam, hr.memory.wram, hr.memory.hram, hr.memory.framebuffer⟩,
        hr.flagsLow, hr.dmaCursor, hr.hdmaDst, hr.lineSprites, hr.fetched, hr.staging, hr.fifo,
        (by omega : s.dma.delay - 1 ≤ 2), hr.dmaIndex, hr.hdmaLength, hr.hdmaBlocks, hr.hdmaLeft,
        hr.dmgOnly⟩
    · refine ((busRead_sound h _).and (busRead_sat _ s)).andThen fun v t ⟨ht, _, he⟩ => ?_
      have e : t.dma = s.dma := by rcases he with rfl | rfl <;> rfl
      obtain ⟨hr, hp⟩ := (sound_iff t).1 ht
      refine of_ite (P := fun r => Res.Sat r _) (fun hx => ?_) fun _ => sat_raise _ _ _
      refine (sound_iff _).2 ⟨?_, hp.of_eq rfl rfl rfl rfl⟩
      refine ⟨⟨hr.memory.vram, Memory.wf_set hx _ _ hr.memory.oam, hr.memory.wram, hr.memory.hram,
        hr.memory.framebuffer⟩, hr.flagsLow, fun ha => ?_, hr.hdmaDst, hr.lineSprites, hr.fetched,
        hr.staging, hr.fifo, hr.dmaDelay, ?_, hr.hdmaLength, hr.hdmaBlocks, hr.hdmaLeft, hr.dmgOnly⟩
      · have : ¬ t.dma.index + 1 = 160 := by simpa using ha
        show t.dma.index + 1 < 160
        omega
      · show t.dma.index + 1 ≤ 160
        omega

/-- A machine cycle (R184) keeps a sound machine sound. -/
theorem cycle_sound {s : State} (h : Sound s) : (cycle s).Sat fun _ t => Sound t := by
  have h' : Sound { s with cycles := s.cycles + 1 } := h.of_eq rfl rfl rfl rfl rfl rfl rfl rfl rfl rfl
  refine Res.Sat.andThen (Res.sat_repeat_keep (G := Sound) (fun s hs => ?_) 4 _ h') fun _ _ ht => dmaStep_sound ht
  exact ppuTick_sound (timerTick_sound hs)

/-! ## Timed accesses -/

/-- A write of HDMA5 (R472). -/
theorem writeHdma5_sound {s : State} (h : Sound s) (hm : s.params.mode = .cgb) (v : Byte) :
    (writeHdma5 v s).Sat fun _ t => Sound t := by
  obtain ⟨hr, hp⟩ := (sound_iff s).1 h
  have hdst : 0x8000 ≤ (latchHdma v s.hdma).dst.toNat ∧ (latchHdma v s.hdma).dst.toNat ≤ 0x9FFF := by
    have := vramAddress_range (pair s.hdma.hdma3 s.hdma.hdma4 &&& 0x1FF0#16)
    rw [BitVec.and_assoc, show (0x1FF0#16 &&& 0x1FFF#16) = 0x1FF0#16 from rfl] at this
    exact this
  have hlen : (v &&& 0x7F).toNat < 128 := by
    rw [BitVec.toNat_and]
    exact Nat.lt_of_le_of_lt Nat.and_le_right (by decide)
  have latched : ∀ x : Hdma, x.dst = (latchHdma v s.hdma).dst →
      x.remaining = ((v &&& 0x7F).toNat + 1) * 16 → Rest { s with hdma := x } := by
    intro x e1 e2
    refine ⟨⟨hr.memory.vram, hr.memory.oam, hr.memory.wram, hr.memory.hram, hr.memory.framebuffer⟩,
      hr.flagsLow, hr.dmaCursor, ?_, hr.lineSprites, hr.fetched, hr.staging, hr.fifo, hr.dmaDelay,
      hr.dmaIndex, ?_, ?_, fun _ => ?_, fun hd => ?_⟩
    · show 0x8000 ≤ x.dst.toNat ∧ x.dst.toNat ≤ 0x9FFF
      rw [e1]
      exact hdst
    · show x.remaining ≤ 2048
      omega
    · show x.remaining % 16 = 0
      omega
    · show x.remaining ≠ 0
      omega
    · have hd' : s.params.mode = .dmg := hd
      rw [hm] at hd'
      exact absurd hd' (by decide)
  unfold writeHdma5
  split
  · refine (sound_iff _).2 ⟨?_, hp.of_eq rfl rfl rfl rfl⟩
    refine ⟨⟨hr.memory.vram, hr.memory.oam, hr.memory.wram, hr.memory.hram, hr.memory.framebuffer⟩,
      hr.flagsLow, hr.dmaCursor, hr.hdmaDst, hr.lineSprites, hr.fetched, hr.staging, hr.fifo, hr.dmaDelay,
      hr.dmaIndex, hr.hdmaLength, hr.hdmaBlocks, fun hx => ?_, fun hd => ?_⟩
    · exact Bool.noConfusion hx
    · exact ⟨rfl, (hr.dmgOnly hd).2⟩
  · split
    · have hr' : Rest { s with hdma := { latchHdma v s.hdma with hblank := false } } := latched _ rfl rfl
      have hb := hr'.hdmaBlocks
      refine (hdmaCopy_copied _ _).mono fun _ t k => ?_
      refine (sound_iff t).2 ⟨k.rest hr' hb le_rfl fun hd => ?_, ?_⟩
      · have hd' : s.params.mode = .dmg := hd
        rw [hm] at hd'
        exact absurd hd' (by decide)
      · exact hp.of_eq (by rw [k.lcd]) (by rw [k.lcd]) (by rw [k.ppu]) k.pipe
    · exact (sound_iff _).2 ⟨latched _ rfl rfl, hp.of_eq rfl rfl rfl rfl⟩

/-- The registers of CGB mode are not met in DMG mode (R87, R88). -/
theorem ioReg_cgb {p : Params} {n : Nat} (h : ioReg p n = .hdma5 ∨ ioReg p n = .svbk) : p.mode = .cgb := by
  have hb : ∀ c ∈ ioBoth, c.2 ≠ .hdma5 ∧ c.2 ≠ .svbk := by decide
  have key : ∀ (l : List (Nat × IoReg)), (∀ c ∈ l, c.2 ≠ .hdma5 ∧ c.2 ≠ .svbk) → ∀ r,
      lookupCell l n = some r → r ≠ .hdma5 ∧ r ≠ .svbk := by
    intro l hl r
    induction l with
    | nil => simp [lookupCell]
    | cons c rest ih =>
      simp only [lookupCell]
      split
      · rintro ⟨⟩
        exact hl c (by simp)
      · exact ih fun c hc => hl c (by simp [hc])
  cases hm : p.mode with
  | cgb => rfl
  | dmg =>
    unfold ioReg at h
    split at h
    · simp at h
    · split at h
      · have := key ioBoth hb _ ‹_›
        rcases h with h | h
        · exact absurd h this.1
        · exact absurd h this.2
      · rw [hm] at h
        simp at h

/-- The mode of a location in the CGB part of the I/O block. -/
theorem locate_cgb {s : State} {a : Word} (h : s.locate a = .io .hdma5 ∨ s.locate a = .io .svbk) :
    s.params.mode = .cgb := by
  have hio : ∀ r, s.locate a = .io r → ∃ n, ioReg s.params n = r := by
    intro r h
    unfold State.locate Machine.locate at h
    dsimp only at h
    split_ifs at h
    exact ⟨_, Location.io.inj h⟩
  rcases h with h | h
  · obtain ⟨n, hn⟩ := hio _ h
    exact ioReg_cgb (.inl hn)
  · obtain ⟨n, hn⟩ := hio _ h
    exact ioReg_cgb (.inr hn)

/-- A write of an I/O register keeps a sound machine sound (R87). -/
theorem ioWrite_sound {s : State} (h : Sound s) (a : Word) (v : Byte) {r : IoReg}
    (hm : r = .hdma5 ∨ r = .svbk → s.params.mode = .cgb) :
    (ioWrite a v s r).Sat fun _ t => Sound t := by
  obtain ⟨hr, hp⟩ := (sound_iff s).1 h
  cases r with
  | cgbVideo => exact sat_refuse _ _ _
  | hdma5 => exact writeHdma5_sound h (hm (.inl rfl)) v
  | svbk =>
    refine (sound_iff _).2 ⟨?_, hp.of_eq rfl rfl rfl rfl⟩
    refine ⟨⟨hr.memory.vram, hr.memory.oam, hr.memory.wram, hr.memory.hram, hr.memory.framebuffer⟩,
      hr.flagsLow, hr.dmaCursor, hr.hdmaDst, hr.lineSprites, hr.fetched, hr.staging, hr.fifo, hr.dmaDelay,
      hr.dmaIndex, hr.hdmaLength, hr.hdmaBlocks, hr.hdmaLeft, fun hd => ?_⟩
    have hd' : s.params.mode = .dmg := hd
    rw [hm (.inr rfl)] at hd'
    exact absurd hd' (by decide)
  | dma =>
    refine (sound_iff _).2 ⟨?_, hp.of_eq rfl rfl rfl rfl⟩
    exact ⟨⟨hr.memory.vram, hr.memory.oam, hr.memory.wram, hr.memory.hram, hr.memory.framebuffer⟩,
      hr.flagsLow, fun _ => (by decide : 0 < 160), hr.hdmaDst, hr.lineSprites, hr.fetched, hr.staging,
      hr.fifo, (by decide : 2 ≤ 2), Nat.zero_le _, hr.hdmaLength, hr.hdmaBlocks, hr.hdmaLeft, hr.dmgOnly⟩
  | hdma1 | hdma2 | hdma3 | hdma4 =>
    refine (sound_iff _).2 ⟨?_, hp.of_eq rfl rfl rfl rfl⟩
    exact ⟨⟨hr.memory.vram, hr.memory.oam, hr.memory.wram, hr.memory.hram, hr.memory.framebuffer⟩,
      hr.flagsLow, hr.dmaCursor, hr.hdmaDst, hr.lineSprites, hr.fetched, hr.staging, hr.fifo, hr.dmaDelay,
      hr.dmaIndex, hr.hdmaLength, hr.hdmaBlocks, hr.hdmaLeft, hr.dmgOnly⟩
  | _ => exact h.of_eq rfl rfl rfl rfl rfl rfl rfl rfl rfl rfl

/-- A memory with other contents in canonical form. -/
theorem Sound.withMem {s : State} (h : Sound s) (m : Mem) (hs : m.svbk = s.mem.svbk)
    (hm : MemorySound { s with mem := m }) : Sound { s with mem := m } := by
  obtain ⟨hr, hp⟩ := (sound_iff s).1 h
  refine (sound_iff _).2 ⟨?_, hp.of_eq rfl rfl rfl rfl⟩
  exact ⟨hm, hr.flagsLow, hr.dmaCursor, hr.hdmaDst, hr.lineSprites, hr.fetched, hr.staging, hr.fifo,
    hr.dmaDelay, hr.dmaIndex, hr.hdmaLength, hr.hdmaBlocks, hr.hdmaLeft,
    fun hd => ⟨(hr.dmgOnly hd).1, hs.trans (hr.dmgOnly hd).2.1, (hr.dmgOnly hd).2.2⟩⟩

/-- A bus write keeps a sound machine sound (R80). -/
theorem busWrite_sound {s : State} (h : Sound s) (a : Word) (v : Byte) :
    (busWrite a v s).Sat fun _ t => Sound t := by
  have hc := locate_cellAddress s.params s.mem.svbk a
  have hw := (wramBank_range s.params s.mem.svbk).2
  have hsz : 0x2000 ≤ wramSize s.params.mode := by unfold wramSize; cases s.params.mode <;> decide
  have hm := h.memory
  unfold busWrite
  cases hl : s.locate a <;> (unfold State.locate at hl; rw [hl] at hc; simp only [cellAddress] at hc) <;>
    dsimp only
  case io r =>
    refine ioWrite_sound h a v fun hr => locate_cgb (a := a) ?_
    unfold State.locate
    rcases hr with rfl | rfl
    · exact .inl hl
    · exact .inr hl
  case vram i =>
    exact h.withMem _ rfl ⟨Memory.wf_set hc.2 _ _ hm.vram, hm.oam, hm.wram, hm.hram, hm.framebuffer⟩
  case wram i =>
    exact h.withMem _ rfl
      ⟨hm.vram, hm.oam, Memory.wf_set (size := wramSize s.params.mode) (by omega) _ _ hm.wram, hm.hram, hm.framebuffer⟩
  case oam i =>
    exact h.withMem _ rfl ⟨hm.vram, Memory.wf_set hc.2 _ _ hm.oam, hm.wram, hm.hram, hm.framebuffer⟩
  case hram i =>
    exact h.withMem _ rfl ⟨hm.vram, hm.oam, hm.wram, Memory.wf_set hc.2 _ _ hm.hram, hm.framebuffer⟩
  all_goals exact h.of_eq rfl rfl rfl rfl rfl rfl rfl rfl rfl rfl

theorem idle_sound {s : State} (h : Sound s) : (idle s).Sat fun _ t => Sound t := cycle_sound h

theorem rd_sound {s : State} (h : Sound s) (a : Word) : (rd a s).Sat fun _ t => Sound t :=
  (busRead_sound h a).andThen fun _ _ ht => (cycle_sound ht).andThen fun _ _ hu => hu

theorem wr_sound {s : State} (h : Sound s) (a : Word) (v : Byte) : (wr a v s).Sat fun _ t => Sound t :=
  (busWrite_sound h a v).andThen fun _ _ ht => cycle_sound ht

theorem imm8_sound {s : State} (h : Sound s) : (imm8 s).Sat fun _ t => Sound t :=
  (rd_sound h _).andThen fun _ t ht => ht.withCpu { t.cpu with pc := t.cpu.pc + 1 } ht.flagsLow

/-- Internal cycles keep a sound machine sound (R185, R189). -/
theorem idles_sound (n : Nat) {s : State} (h : Sound s) : (Res.repeat idle n s).Sat fun _ t => Sound t :=
  Res.sat_repeat_keep (G := Sound) (fun _ hs => idle_sound hs) n s h

theorem pause_sound {s : State} (h : Sound s) (g : List Nat) (k : Nat) :
    (pause g k s).Sat fun _ t => Sound t := idles_sound _ h

theorem settle_sound {s : State} (h : Sound s) (g : List Nat) : (settle g s).Sat fun _ t => Sound t :=
  pause_sound h g 0

theorem readThen_sound {s : State} (h : Sound s) (g : List Nat) (k : Nat) (a : Word) :
    (readThen g k a s).Sat fun _ t => Sound t :=
  (rd_sound h a).andThen fun _ _ ht => (pause_sound ht g k).andThen fun _ _ hu => hu

theorem writeThen_sound {s : State} (h : Sound s) (g : List Nat) (k : Nat) (a : Word) (v : Byte) :
    (writeThen g k a v s).Sat fun _ t => Sound t :=
  (wr_sound h a v).andThen fun _ _ ht => pause_sound ht g k

theorem pushByte_sound {s : State} (h : Sound s) (g : List Nat) (k : Nat) (v : Byte) :
    (pushByte g k v s).Sat fun _ t => Sound t :=
  writeThen_sound (s := s.setSp (s.cpu.sp - 1)) (h.withCpu _ h.flagsLow) g k _ v

theorem pushWord_sound {s : State} (h : Sound s) (g : List Nat) (v : Word) :
    (pushWord g v s).Sat fun _ t => Sound t :=
  (pause_sound h g 0).andThen fun _ _ hm => (pushByte_sound hm g 1 _).andThen fun _ _ ht =>
    pushByte_sound ht g 2 _

theorem popByte_sound {s : State} (h : Sound s) : (popByte s).Sat fun _ t => Sound t :=
  (rd_sound h _).andThen fun _ t ht => ht.withCpu { t.cpu with sp := t.cpu.sp + 1 } ht.flagsLow

theorem popWord_sound {s : State} (h : Sound s) (g : List Nat) : (popWord g s).Sat fun _ t => Sound t :=
  (pause_sound h g 0).andThen fun _ _ hm => (popByte_sound hm).andThen fun _ _ ht =>
    (pause_sound ht g 1).andThen fun _ _ hx => (popByte_sound hx).andThen fun _ _ hy =>
      (pause_sound hy g 2).andThen fun _ _ hu => hu

/-- A write of a register but F keeps a sound machine sound. -/
theorem Sound.setReg8 {s : State} (h : Sound s) (r : Reg8) (v : Byte) : Sound (s.setReg8 r v) := by
  cases r <;> exact h.withCpu _ h.flagsLow

theorem Sound.setReg16 {s : State} (h : Sound s) (r : Reg16) (v : Word) : Sound (s.setReg16 r v) := by
  cases r <;> exact h.withCpu _ h.flagsLow

/-- A write of F keeps its low nibble clear (R32). -/
theorem Sound.setFlagsByte {s : State} (h : Sound s) (v : Byte) : Sound (s.setFlagsByte v) := by
  refine h.withCpu _ ?_
  show v &&& 0xF0 &&& 0x0F = 0
  rw [BitVec.and_assoc]
  exact BitVec.and_zero

theorem Sound.setFlags {s : State} (h : Sound s) (f : Flags) : Sound (s.setFlags f) := h.setFlagsByte _

theorem readOperand_sound {s : State} (h : Sound s) (g : List Nat) (o : Operand8) :
    (readOperand g o s).Sat fun _ t => Sound t := by
  refine (pause_sound h g 0).andThen fun _ m hm => ?_
  cases o
  · exact hm
  · exact readThen_sound hm g 1 _
  · exact hm

theorem writeOperand_sound {s : State} (h : Sound s) (g : List Nat) (o : Operand8) (v : Byte) :
    (writeOperand g o v s).Sat fun _ t => Sound t := by
  cases o
  · exact h.setReg8 _ v
  · exact writeThen_sound h g 2 _ v
  · exact h

/-- Taking an interrupt (R406) keeps a sound machine sound. -/
theorem dispatch_sound {s : State} (h : Sound s) : (dispatch s).Sat fun _ t => Sound t := by
  unfold dispatch
  split
  · exact h
  · refine (pushWord_sound h [] _).andThen fun _ t ht => ?_
    exact (ht.withCpu _ ht.flagsLow).of_eq rfl rfl rfl rfl rfl rfl rfl rfl rfl rfl

end Sys2Proof.Machine
end

