-- ==== Sys2Proof/Tests/Slice0.lean ====
section
/-! SUPPORT. The model's own tests: the well-formedness check, the decoding of every word, one step of one
instruction of each rule, the worked examples of the spec, and for each obligation states and operands
that meet its hypotheses. The expected values are the spec's (95_test_vectors.md, 30_encoding.md). -/

namespace Sys2Proof.Tests

open Sys2Proof Sys2Proof.Machine Sys2Proof.Claims

/-! ## Helpers -/

/-- A device that reads 0 everywhere but where bytes are listed (95_test_vectors.md, Conventions). -/
def device (bytes : List (Nat × Byte)) : Device := { image := bytes, fill := some 0, history := [] }

/-- The power-on state of a console, every device reading 0. -/
def console (m : Mode) : State :=
  State.powerOn { Params.default with mode := m } ResetProfile.default 0xABCC Mem.empty
    { cart := device [], joypad := device [], serial := device [], sound := device [] }

/-- Bytes numbered from an address on. -/
def numbered : Nat → List Byte → List (Nat × Byte)
  | _, [] => []
  | a, v :: rest => (a, v) :: numbered (a + 1) rest

/-- A state after bytes were written through the bus. -/
def withBytes (s : State) : List (Word × Byte) → State
  | [] => s
  | (a, v) :: rest =>
    match busWrite a v s with
    | .ok _ t => withBytes t rest
    | .stop t => t

/-- A DMG console with a program in ROM at 0x0100, bytes in RAM and registers. -/
def start (program : List Byte) (ram : List (Word × Byte)) (c : Cpu) : State :=
  { withBytes (console .dmg) ram with
    cpu := c
    dev := { cart := device (numbered 0x100 program), joypad := device [], serial := device [],
             sound := device [] } }

/-- One step of a state, if it answers a next state. -/
def next (s : State) : Option State :=
  match step s with
  | .next t => some t
  | .fault _ => none
  | .refused _ => none

/-- One step from power-on. -/
def after (program : List Byte) (ram : List (Word × Byte)) (c : Cpu) : Option State :=
  next (start program ram c)

/-! ## Well-formedness -/

/-- The bare prefix byte is no complete instruction (R346). -/
theorem test_wf_refuses_prefix : Instr.prefixCb.wf = false := by decide

/-- Instructions of each shape are complete. -/
theorem test_wf_accepts : ([.nop, .ldBcD16 0x1234, .ldBD8 0x12, .stop, .cbRlcB, .illegalD3] :
    List Instr).all Instr.wf = true := by decide

/-! ## Decoding: every word of the two opcode maps (30_encoding.md R150-R154, opcode_table.json) -/

theorem test_decode_0x :
    ([
      decode [0x00], decode [0x01, 0x34, 0x12], decode [0x02], decode [0x03], decode [0x04],
      decode [0x05], decode [0x06, 0x9C], decode [0x07], decode [0x08, 0x34, 0x12], decode [0x09],
      decode [0x0A], decode [0x0B], decode [0x0C], decode [0x0D], decode [0x0E, 0x9C], decode [0x0F]] :
      List (Except DecodeError (Instr × List Byte))) = [
      .ok (.nop, []), .ok (.ldBcD16 0x1234, []), .ok (.ldMemBcA, []), .ok (.incBc, []), .ok (.incB, []),
      .ok (.decB, []), .ok (.ldBD8 0x9C, []), .ok (.rlca, []), .ok (.ldMemA16Sp 0x1234, []),
      .ok (.addHlBc, []), .ok (.ldAMemBc, []), .ok (.decBc, []), .ok (.incC, []), .ok (.decC, []),
      .ok (.ldCD8 0x9C, []), .ok (.rrca, [])] := rfl

theorem test_decode_1x :
    ([
      decode [0x10, 0x00], decode [0x11, 0x34, 0x12], decode [0x12], decode [0x13], decode [0x14],
      decode [0x15], decode [0x16, 0x9C], decode [0x17], decode [0x18, 0x9C], decode [0x19],
      decode [0x1A], decode [0x1B], decode [0x1C], decode [0x1D], decode [0x1E, 0x9C], decode [0x1F]] :
      List (Except DecodeError (Instr × List Byte))) = [
      .ok (.stop, []), .ok (.ldDeD16 0x1234, []), .ok (.ldMemDeA, []), .ok (.incDe, []),
      .ok (.incD, []), .ok (.decD, []), .ok (.ldDD8 0x9C, []), .ok (.rla, []), .ok (.jrE8 0x9C, []),
      .ok (.addHlDe, []), .ok (.ldAMemDe, []), .ok (.decDe, []), .ok (.incE, []), .ok (.decE, []),
      .ok (.ldED8 0x9C, []), .ok (.rra, [])] := rfl

theorem test_decode_2x :
    ([
      decode [0x20, 0x9C], decode [0x21, 0x34, 0x12], decode [0x22], decode [0x23], decode [0x24],
      decode [0x25], decode [0x26, 0x9C], decode [0x27], decode [0x28, 0x9C], decode [0x29],
      decode [0x2A], decode [0x2B], decode [0x2C], decode [0x2D], decode [0x2E, 0x9C], decode [0x2F]] :
      List (Except DecodeError (Instr × List Byte))) = [
      .ok (.jrNzE8 0x9C, []), .ok (.ldHlD16 0x1234, []), .ok (.ldMemHlIncA, []), .ok (.incHl, []),
      .ok (.incH, []), .ok (.decH, []), .ok (.ldHD8 0x9C, []), .ok (.daa, []), .ok (.jrZE8 0x9C, []),
      .ok (.addHlHl, []), .ok (.ldAMemHlInc, []), .ok (.decHl, []), .ok (.incL, []), .ok (.decL, []),
      .ok (.ldLD8 0x9C, []), .ok (.cpl, [])] := rfl

theorem test_decode_3x :
    ([
      decode [0x30, 0x9C], decode [0x31, 0x34, 0x12], decode [0x32], decode [0x33], decode [0x34],
      decode [0x35], decode [0x36, 0x9C], decode [0x37], decode [0x38, 0x9C], decode [0x39],
      decode [0x3A], decode [0x3B], decode [0x3C], decode [0x3D], decode [0x3E, 0x9C], decode [0x3F]] :
      List (Except DecodeError (Instr × List Byte))) = [
      .ok (.jrNcE8 0x9C, []), .ok (.ldSpD16 0x1234, []), .ok (.ldMemHlDecA, []), .ok (.incSp, []),
      .ok (.incMemHl, []), .ok (.decMemHl, []), .ok (.ldMemHlD8 0x9C, []), .ok (.scf, []),
      .ok (.jrCE8 0x9C, []), .ok (.addHlSp, []), .ok (.ldAMemHlDec, []), .ok (.decSp, []),
      .ok (.incA, []), .ok (.decA, []), .ok (.ldAD8 0x9C, []), .ok (.ccf, [])] := rfl

theorem test_decode_4x :
    ([
      decode [0x40], decode [0x41], decode [0x42], decode [0x43], decode [0x44], decode [0x45],
      decode [0x46], decode [0x47], decode [0x48], decode [0x49], decode [0x4A], decode [0x4B],
      decode [0x4C], decode [0x4D], decode [0x4E], decode [0x4F]] :
      List (Except DecodeError (Instr × List Byte))) = [
      .ok (.ldBB, []), .ok (.ldBC, []), .ok (.ldBD, []), .ok (.ldBE, []), .ok (.ldBH, []),
      .ok (.ldBL, []), .ok (.ldBMemHl, []), .ok (.ldBA, []), .ok (.ldCB, []), .ok (.ldCC, []),
      .ok (.ldCD, []), .ok (.ldCE, []), .ok (.ldCH, []), .ok (.ldCL, []), .ok (.ldCMemHl, []),
      .ok (.ldCA, [])] := rfl

theorem test_decode_5x :
    ([
      decode [0x50], decode [0x51], decode [0x52], decode [0x53], decode [0x54], decode [0x55],
      decode [0x56], decode [0x57], decode [0x58], decode [0x59], decode [0x5A], decode [0x5B],
      decode [0x5C], decode [0x5D], decode [0x5E], decode [0x5F]] :
      List (Except DecodeError (Instr × List Byte))) = [
      .ok (.ldDB, []), .ok (.ldDC, []), .ok (.ldDD, []), .ok (.ldDE, []), .ok (.ldDH, []),
      .ok (.ldDL, []), .ok (.ldDMemHl, []), .ok (.ldDA, []), .ok (.ldEB, []), .ok (.ldEC, []),
      .ok (.ldED, []), .ok (.ldEE, []), .ok (.ldEH, []), .ok (.ldEL, []), .ok (.ldEMemHl, []),
      .ok (.ldEA, [])] := rfl

theorem test_decode_6x :
    ([
      decode [0x60], decode [0x61], decode [0x62], decode [0x63], decode [0x64], decode [0x65],
      decode [0x66], decode [0x67], decode [0x68], decode [0x69], decode [0x6A], decode [0x6B],
      decode [0x6C], decode [0x6D], decode [0x6E], decode [0x6F]] :
      List (Except DecodeError (Instr × List Byte))) = [
      .ok (.ldHB, []), .ok (.ldHC, []), .ok (.ldHD, []), .ok (.ldHE, []), .ok (.ldHH, []),
      .ok (.ldHL, []), .ok (.ldHMemHl, []), .ok (.ldHA, []), .ok (.ldLB, []), .ok (.ldLC, []),
      .ok (.ldLD, []), .ok (.ldLE, []), .ok (.ldLH, []), .ok (.ldLL, []), .ok (.ldLMemHl, []),
      .ok (.ldLA, [])] := rfl

theorem test_decode_7x :
    ([
      decode [0x70], decode [0x71], decode [0x72], decode [0x73], decode [0x74], decode [0x75],
      decode [0x76], decode [0x77], decode [0x78], decode [0x79], decode [0x7A], decode [0x7B],
      decode [0x7C], decode [0x7D], decode [0x7E], decode [0x7F]] :
      List (Except DecodeError (Instr × List Byte))) = [
      .ok (.ldMemHlB, []), .ok (.ldMemHlC, []), .ok (.ldMemHlD, []), .ok (.ldMemHlE, []),
      .ok (.ldMemHlH, []), .ok (.ldMemHlL, []), .ok (.halt, []), .ok (.ldMemHlA, []), .ok (.ldAB, []),
      .ok (.ldAC, []), .ok (.ldAD, []), .ok (.ldAE, []), .ok (.ldAH, []), .ok (.ldAL, []),
      .ok (.ldAMemHl, []), .ok (.ldAA, [])] := rfl

theorem test_decode_8x :
    ([
      decode [0x80], decode [0x81], decode [0x82], decode [0x83], decode [0x84], decode [0x85],
      decode [0x86], decode [0x87], decode [0x88], decode [0x89], decode [0x8A], decode [0x8B],
      decode [0x8C], decode [0x8D], decode [0x8E], decode [0x8F]] :
      List (Except DecodeError (Instr × List Byte))) = [
      .ok (.addAB, []), .ok (.addAC, []), .ok (.addAD, []), .ok (.addAE, []), .ok (.addAH, []),
      .ok (.addAL, []), .ok (.addAMemHl, []), .ok (.addAA, []), .ok (.adcAB, []), .ok (.adcAC, []),
      .ok (.adcAD, []), .ok (.adcAE, []), .ok (.adcAH, []), .ok (.adcAL, []), .ok (.adcAMemHl, []),
      .ok (.adcAA, [])] := rfl

theorem test_decode_9x :
    ([
      decode [0x90], decode [0x91], decode [0x92], decode [0x93], decode [0x94], decode [0x95],
      decode [0x96], decode [0x97], decode [0x98], decode [0x99], decode [0x9A], decode [0x9B],
      decode [0x9C], decode [0x9D], decode [0x9E], decode [0x9F]] :
      List (Except DecodeError (Instr × List Byte))) = [
      .ok (.subAB, []), .ok (.subAC, []), .ok (.subAD, []), .ok (.subAE, []), .ok (.subAH, []),
      .ok (.subAL, []), .ok (.subAMemHl, []), .ok (.subAA, []), .ok (.sbcAB, []), .ok (.sbcAC, []),
      .ok (.sbcAD, []), .ok (.sbcAE, []), .ok (.sbcAH, []), .ok (.sbcAL, []), .ok (.sbcAMemHl, []),
      .ok (.sbcAA, [])] := rfl

theorem test_decode_Ax :
    ([
      decode [0xA0], decode [0xA1], decode [0xA2], decode [0xA3], decode [0xA4], decode [0xA5],
      decode [0xA6], decode [0xA7], decode [0xA8], decode [0xA9], decode [0xAA], decode [0xAB],
      decode [0xAC], decode [0xAD], decode [0xAE], decode [0xAF]] :
      List (Except DecodeError (Instr × List Byte))) = [
      .ok (.andAB, []), .ok (.andAC, []), .ok (.andAD, []), .ok (.andAE, []), .ok (.andAH, []),
      .ok (.andAL, []), .ok (.andAMemHl, []), .ok (.andAA, []), .ok (.xorAB, []), .ok (.xorAC, []),
      .ok (.xorAD, []), .ok (.xorAE, []), .ok (.xorAH, []), .ok (.xorAL, []), .ok (.xorAMemHl, []),
      .ok (.xorAA, [])] := rfl

theorem test_decode_Bx :
    ([
      decode [0xB0], decode [0xB1], decode [0xB2], decode [0xB3], decode [0xB4], decode [0xB5],
      decode [0xB6], decode [0xB7], decode [0xB8], decode [0xB9], decode [0xBA], decode [0xBB],
      decode [0xBC], decode [0xBD], decode [0xBE], decode [0xBF]] :
      List (Except DecodeError (Instr × List Byte))) = [
      .ok (.orAB, []), .ok (.orAC, []), .ok (.orAD, []), .ok (.orAE, []), .ok (.orAH, []),
      .ok (.orAL, []), .ok (.orAMemHl, []), .ok (.orAA, []), .ok (.cpAB, []), .ok (.cpAC, []),
      .ok (.cpAD, []), .ok (.cpAE, []), .ok (.cpAH, []), .ok (.cpAL, []), .ok (.cpAMemHl, []),
      .ok (.cpAA, [])] := rfl

theorem test_decode_Cx :
    ([
      decode [0xC0], decode [0xC1], decode [0xC2, 0x34, 0x12], decode [0xC3, 0x34, 0x12],
      decode [0xC4, 0x34, 0x12], decode [0xC5], decode [0xC6, 0x9C], decode [0xC7], decode [0xC8],
      decode [0xC9], decode [0xCA, 0x34, 0x12], decode [0xCB], decode [0xCC, 0x34, 0x12],
      decode [0xCD, 0x34, 0x12], decode [0xCE, 0x9C], decode [0xCF]] :
      List (Except DecodeError (Instr × List Byte))) = [
      .ok (.retNz, []), .ok (.popBc, []), .ok (.jpNzA16 0x1234, []), .ok (.jpA16 0x1234, []),
      .ok (.callNzA16 0x1234, []), .ok (.pushBc, []), .ok (.addAD8 0x9C, []), .ok (.rst00, []),
      .ok (.retZ, []), .ok (.ret, []), .ok (.jpZA16 0x1234, []), .ok (.prefixCb, []),
      .ok (.callZA16 0x1234, []), .ok (.callA16 0x1234, []), .ok (.adcAD8 0x9C, []), .ok (.rst08, [])] := rfl

theorem test_decode_Dx :
    ([
      decode [0xD0], decode [0xD1], decode [0xD2, 0x34, 0x12], decode [0xD3], decode [0xD4, 0x34, 0x12],
      decode [0xD5], decode [0xD6, 0x9C], decode [0xD7], decode [0xD8], decode [0xD9],
      decode [0xDA, 0x34, 0x12], decode [0xDB], decode [0xDC, 0x34, 0x12], decode [0xDD],
      decode [0xDE, 0x9C], decode [0xDF]] :
      List (Except DecodeError (Instr × List Byte))) = [
      .ok (.retNc, []), .ok (.popDe, []), .ok (.jpNcA16 0x1234, []), .ok (.illegalD3, []),
      .ok (.callNcA16 0x1234, []), .ok (.pushDe, []), .ok (.subAD8 0x9C, []), .ok (.rst10, []),
      .ok (.retC, []), .ok (.reti, []), .ok (.jpCA16 0x1234, []), .ok (.illegalDB, []),
      .ok (.callCA16 0x1234, []), .ok (.illegalDD, []), .ok (.sbcAD8 0x9C, []), .ok (.rst18, [])] := rfl

theorem test_decode_Ex :
    ([
      decode [0xE0, 0x9C], decode [0xE1], decode [0xE2], decode [0xE3], decode [0xE4], decode [0xE5],
      decode [0xE6, 0x9C], decode [0xE7], decode [0xE8, 0x9C], decode [0xE9], decode [0xEA, 0x34, 0x12],
      decode [0xEB], decode [0xEC], decode [0xED], decode [0xEE, 0x9C], decode [0xEF]] :
      List (Except DecodeError (Instr × List Byte))) = [
      .ok (.ldhMemA8A 0x9C, []), .ok (.popHl, []), .ok (.ldMemCA, []), .ok (.illegalE3, []),
      .ok (.illegalE4, []), .ok (.pushHl, []), .ok (.andAD8 0x9C, []), .ok (.rst20, []),
      .ok (.addSpE8 0x9C, []), .ok (.jpHl, []), .ok (.ldMemA16A 0x1234, []), .ok (.illegalEB, []),
      .ok (.illegalEC, []), .ok (.illegalED, []), .ok (.xorAD8 0x9C, []), .ok (.rst28, [])] := rfl

theorem test_decode_Fx :
    ([
      decode [0xF0, 0x9C], decode [0xF1], decode [0xF2], decode [0xF3], decode [0xF4], decode [0xF5],
      decode [0xF6, 0x9C], decode [0xF7], decode [0xF8, 0x9C], decode [0xF9], decode [0xFA, 0x34, 0x12],
      decode [0xFB], decode [0xFC], decode [0xFD], decode [0xFE, 0x9C], decode [0xFF]] :
      List (Except DecodeError (Instr × List Byte))) = [
      .ok (.ldhAMemA8 0x9C, []), .ok (.popAf, []), .ok (.ldAMemC, []), .ok (.di, []),
      .ok (.illegalF4, []), .ok (.pushAf, []), .ok (.orAD8 0x9C, []), .ok (.rst30, []),
      .ok (.ldHlSpE8 0x9C, []), .ok (.ldSpHl, []), .ok (.ldAMemA16 0x1234, []), .ok (.ei, []),
      .ok (.illegalFC, []), .ok (.illegalFD, []), .ok (.cpAD8 0x9C, []), .ok (.rst38, [])] := rfl

theorem test_decode_cb_0x :
    ([
      decode [0xCB, 0x00], decode [0xCB, 0x01], decode [0xCB, 0x02], decode [0xCB, 0x03],
      decode [0xCB, 0x04], decode [0xCB, 0x05], decode [0xCB, 0x06], decode [0xCB, 0x07],
      decode [0xCB, 0x08], decode [0xCB, 0x09], decode [0xCB, 0x0A], decode [0xCB, 0x0B],
      decode [0xCB, 0x0C], decode [0xCB, 0x0D], decode [0xCB, 0x0E], decode [0xCB, 0x0F]] :
      List (Except DecodeError (Instr × List Byte))) = [
      .ok (.cbRlcB, []), .ok (.cbRlcC, []), .ok (.cbRlcD, []), .ok (.cbRlcE, []), .ok (.cbRlcH, []),
      .ok (.cbRlcL, []), .ok (.cbRlcMemHl, []), .ok (.cbRlcA, []), .ok (.cbRrcB, []), .ok (.cbRrcC, []),
      .ok (.cbRrcD, []), .ok (.cbRrcE, []), .ok (.cbRrcH, []), .ok (.cbRrcL, []), .ok (.cbRrcMemHl, []),
      .ok (.cbRrcA, [])] := rfl

theorem test_decode_cb_1x :
    ([
      decode [0xCB, 0x10], decode [0xCB, 0x11], decode [0xCB, 0x12], decode [0xCB, 0x13],
      decode [0xCB, 0x14], decode [0xCB, 0x15], decode [0xCB, 0x16], decode [0xCB, 0x17],
      decode [0xCB, 0x18], decode [0xCB, 0x19], decode [0xCB, 0x1A], decode [0xCB, 0x1B],
      decode [0xCB, 0x1C], decode [0xCB, 0x1D], decode [0xCB, 0x1E], decode [0xCB, 0x1F]] :
      List (Except DecodeError (Instr × List Byte))) = [
      .ok (.cbRlB, []), .ok (.cbRlC, []), .ok (.cbRlD, []), .ok (.cbRlE, []), .ok (.cbRlH, []),
      .ok (.cbRlL, []), .ok (.cbRlMemHl, []), .ok (.cbRlA, []), .ok (.cbRrB, []), .ok (.cbRrC, []),
      .ok (.cbRrD, []), .ok (.cbRrE, []), .ok (.cbRrH, []), .ok (.cbRrL, []), .ok (.cbRrMemHl, []),
      .ok (.cbRrA, [])] := rfl

theorem test_decode_cb_2x :
    ([
      decode [0xCB, 0x20], decode [0xCB, 0x21], decode [0xCB, 0x22], decode [0xCB, 0x23],
      decode [0xCB, 0x24], decode [0xCB, 0x25], decode [0xCB, 0x26], decode [0xCB, 0x27],
      decode [0xCB, 0x28], decode [0xCB, 0x29], decode [0xCB, 0x2A], decode [0xCB, 0x2B],
      decode [0xCB, 0x2C], decode [0xCB, 0x2D], decode [0xCB, 0x2E], decode [0xCB, 0x2F]] :
      List (Except DecodeError (Instr × List Byte))) = [
      .ok (.cbSlaB, []), .ok (.cbSlaC, []), .ok (.cbSlaD, []), .ok (.cbSlaE, []), .ok (.cbSlaH, []),
      .ok (.cbSlaL, []), .ok (.cbSlaMemHl, []), .ok (.cbSlaA, []), .ok (.cbSraB, []), .ok (.cbSraC, []),
      .ok (.cbSraD, []), .ok (.cbSraE, []), .ok (.cbSraH, []), .ok (.cbSraL, []), .ok (.cbSraMemHl, []),
      .ok (.cbSraA, [])] := rfl

theorem test_decode_cb_3x :
    ([
      decode [0xCB, 0x30], decode [0xCB, 0x31], decode [0xCB, 0x32], decode [0xCB, 0x33],
      decode [0xCB, 0x34], decode [0xCB, 0x35], decode [0xCB, 0x36], decode [0xCB, 0x37],
      decode [0xCB, 0x38], decode [0xCB, 0x39], decode [0xCB, 0x3A], decode [0xCB, 0x3B],
      decode [0xCB, 0x3C], decode [0xCB, 0x3D], decode [0xCB, 0x3E], decode [0xCB, 0x3F]] :
      List (Except DecodeError (Instr × List Byte))) = [
      .ok (.cbSwapB, []), .ok (.cbSwapC, []), .ok (.cbSwapD, []), .ok (.cbSwapE, []),
      .ok (.cbSwapH, []), .ok (.cbSwapL, []), .ok (.cbSwapMemHl, []), .ok (.cbSwapA, []),
      .ok (.cbSrlB, []), .ok (.cbSrlC, []), .ok (.cbSrlD, []), .ok (.cbSrlE, []), .ok (.cbSrlH, []),
      .ok (.cbSrlL, []), .ok (.cbSrlMemHl, []), .ok (.cbSrlA, [])] := rfl

theorem test_decode_cb_4x :
    ([
      decode [0xCB, 0x40], decode [0xCB, 0x41], decode [0xCB, 0x42], decode [0xCB, 0x43],
      decode [0xCB, 0x44], decode [0xCB, 0x45], decode [0xCB, 0x46], decode [0xCB, 0x47],
      decode [0xCB, 0x48], decode [0xCB, 0x49], decode [0xCB, 0x4A], decode [0xCB, 0x4B],
      decode [0xCB, 0x4C], decode [0xCB, 0x4D], decode [0xCB, 0x4E], decode [0xCB, 0x4F]] :
      List (Except DecodeError (Instr × List Byte))) = [
      .ok (.cbBit0B, []), .ok (.cbBit0C, []), .ok (.cbBit0D, []), .ok (.cbBit0E, []),
      .ok (.cbBit0H, []), .ok (.cbBit0L, []), .ok (.cbBit0MemHl, []), .ok (.cbBit0A, []),
      .ok (.cbBit1B, []), .ok (.cbBit1C, []), .ok (.cbBit1D, []), .ok (.cbBit1E, []),
      .ok (.cbBit1H, []), .ok (.cbBit1L, []), .ok (.cbBit1MemHl, []), .ok (.cbBit1A, [])] := rfl

theorem test_decode_cb_5x :
    ([
      decode [0xCB, 0x50], decode [0xCB, 0x51], decode [0xCB, 0x52], decode [0xCB, 0x53],
      decode [0xCB, 0x54], decode [0xCB, 0x55], decode [0xCB, 0x56], decode [0xCB, 0x57],
      decode [0xCB, 0x58], decode [0xCB, 0x59], decode [0xCB, 0x5A], decode [0xCB, 0x5B],
      decode [0xCB, 0x5C], decode [0xCB, 0x5D], decode [0xCB, 0x5E], decode [0xCB, 0x5F]] :
      List (Except DecodeError (Instr × List Byte))) = [
      .ok (.cbBit2B, []), .ok (.cbBit2C, []), .ok (.cbBit2D, []), .ok (.cbBit2E, []),
      .ok (.cbBit2H, []), .ok (.cbBit2L, []), .ok (.cbBit2MemHl, []), .ok (.cbBit2A, []),
      .ok (.cbBit3B, []), .ok (.cbBit3C, []), .ok (.cbBit3D, []), .ok (.cbBit3E, []),
      .ok (.cbBit3H, []), .ok (.cbBit3L, []), .ok (.cbBit3MemHl, []), .ok (.cbBit3A, [])] := rfl

theorem test_decode_cb_6x :
    ([
      decode [0xCB, 0x60], decode [0xCB, 0x61], decode [0xCB, 0x62], decode [0xCB, 0x63],
      decode [0xCB, 0x64], decode [0xCB, 0x65], decode [0xCB, 0x66], decode [0xCB, 0x67],
      decode [0xCB, 0x68], decode [0xCB, 0x69], decode [0xCB, 0x6A], decode [0xCB, 0x6B],
      decode [0xCB, 0x6C], decode [0xCB, 0x6D], decode [0xCB, 0x6E], decode [0xCB, 0x6F]] :
      List (Except DecodeError (Instr × List Byte))) = [
      .ok (.cbBit4B, []), .ok (.cbBit4C, []), .ok (.cbBit4D, []), .ok (.cbBit4E, []),
      .ok (.cbBit4H, []), .ok (.cbBit4L, []), .ok (.cbBit4MemHl, []), .ok (.cbBit4A, []),
      .ok (.cbBit5B, []), .ok (.cbBit5C, []), .ok (.cbBit5D, []), .ok (.cbBit5E, []),
      .ok (.cbBit5H, []), .ok (.cbBit5L, []), .ok (.cbBit5MemHl, []), .ok (.cbBit5A, [])] := rfl

theorem test_decode_cb_7x :
    ([
      decode [0xCB, 0x70], decode [0xCB, 0x71], decode [0xCB, 0x72], decode [0xCB, 0x73],
      decode [0xCB, 0x74], decode [0xCB, 0x75], decode [0xCB, 0x76], decode [0xCB, 0x77],
      decode [0xCB, 0x78], decode [0xCB, 0x79], decode [0xCB, 0x7A], decode [0xCB, 0x7B],
      decode [0xCB, 0x7C], decode [0xCB, 0x7D], decode [0xCB, 0x7E], decode [0xCB, 0x7F]] :
      List (Except DecodeError (Instr × List Byte))) = [
      .ok (.cbBit6B, []), .ok (.cbBit6C, []), .ok (.cbBit6D, []), .ok (.cbBit6E, []),
      .ok (.cbBit6H, []), .ok (.cbBit6L, []), .ok (.cbBit6MemHl, []), .ok (.cbBit6A, []),
      .ok (.cbBit7B, []), .ok (.cbBit7C, []), .ok (.cbBit7D, []), .ok (.cbBit7E, []),
      .ok (.cbBit7H, []), .ok (.cbBit7L, []), .ok (.cbBit7MemHl, []), .ok (.cbBit7A, [])] := rfl

theorem test_decode_cb_8x :
    ([
      decode [0xCB, 0x80], decode [0xCB, 0x81], decode [0xCB, 0x82], decode [0xCB, 0x83],
      decode [0xCB, 0x84], decode [0xCB, 0x85], decode [0xCB, 0x86], decode [0xCB, 0x87],
      decode [0xCB, 0x88], decode [0xCB, 0x89], decode [0xCB, 0x8A], decode [0xCB, 0x8B],
      decode [0xCB, 0x8C], decode [0xCB, 0x8D], decode [0xCB, 0x8E], decode [0xCB, 0x8F]] :
      List (Except DecodeError (Instr × List Byte))) = [
      .ok (.cbRes0B, []), .ok (.cbRes0C, []), .ok (.cbRes0D, []), .ok (.cbRes0E, []),
      .ok (.cbRes0H, []), .ok (.cbRes0L, []), .ok (.cbRes0MemHl, []), .ok (.cbRes0A, []),
      .ok (.cbRes1B, []), .ok (.cbRes1C, []), .ok (.cbRes1D, []), .ok (.cbRes1E, []),
      .ok (.cbRes1H, []), .ok (.cbRes1L, []), .ok (.cbRes1MemHl, []), .ok (.cbRes1A, [])] := rfl

theorem test_decode_cb_9x :
    ([
      decode [0xCB, 0x90], decode [0xCB, 0x91], decode [0xCB, 0x92], decode [0xCB, 0x93],
      decode [0xCB, 0x94], decode [0xCB, 0x95], decode [0xCB, 0x96], decode [0xCB, 0x97],
      decode [0xCB, 0x98], decode [0xCB, 0x99], decode [0xCB, 0x9A], decode [0xCB, 0x9B],
      decode [0xCB, 0x9C], decode [0xCB, 0x9D], decode [0xCB, 0x9E], decode [0xCB, 0x9F]] :
      List (Except DecodeError (Instr × List Byte))) = [
      .ok (.cbRes2B, []), .ok (.cbRes2C, []), .ok (.cbRes2D, []), .ok (.cbRes2E, []),
      .ok (.cbRes2H, []), .ok (.cbRes2L, []), .ok (.cbRes2MemHl, []), .ok (.cbRes2A, []),
      .ok (.cbRes3B, []), .ok (.cbRes3C, []), .ok (.cbRes3D, []), .ok (.cbRes3E, []),
      .ok (.cbRes3H, []), .ok (.cbRes3L, []), .ok (.cbRes3MemHl, []), .ok (.cbRes3A, [])] := rfl

theorem test_decode_cb_Ax :
    ([
      decode [0xCB, 0xA0], decode [0xCB, 0xA1], decode [0xCB, 0xA2], decode [0xCB, 0xA3],
      decode [0xCB, 0xA4], decode [0xCB, 0xA5], decode [0xCB, 0xA6], decode [0xCB, 0xA7],
      decode [0xCB, 0xA8], decode [0xCB, 0xA9], decode [0xCB, 0xAA], decode [0xCB, 0xAB],
      decode [0xCB, 0xAC], decode [0xCB, 0xAD], decode [0xCB, 0xAE], decode [0xCB, 0xAF]] :
      List (Except DecodeError (Instr × List Byte))) = [
      .ok (.cbRes4B, []), .ok (.cbRes4C, []), .ok (.cbRes4D, []), .ok (.cbRes4E, []),
      .ok (.cbRes4H, []), .ok (.cbRes4L, []), .ok (.cbRes4MemHl, []), .ok (.cbRes4A, []),
      .ok (.cbRes5B, []), .ok (.cbRes5C, []), .ok (.cbRes5D, []), .ok (.cbRes5E, []),
      .ok (.cbRes5H, []), .ok (.cbRes5L, []), .ok (.cbRes5MemHl, []), .ok (.cbRes5A, [])] := rfl

theorem test_decode_cb_Bx :
    ([
      decode [0xCB, 0xB0], decode [0xCB, 0xB1], decode [0xCB, 0xB2], decode [0xCB, 0xB3],
      decode [0xCB, 0xB4], decode [0xCB, 0xB5], decode [0xCB, 0xB6], decode [0xCB, 0xB7],
      decode [0xCB, 0xB8], decode [0xCB, 0xB9], decode [0xCB, 0xBA], decode [0xCB, 0xBB],
      decode [0xCB, 0xBC], decode [0xCB, 0xBD], decode [0xCB, 0xBE], decode [0xCB, 0xBF]] :
      List (Except DecodeError (Instr × List Byte))) = [
      .ok (.cbRes6B, []), .ok (.cbRes6C, []), .ok (.cbRes6D, []), .ok (.cbRes6E, []),
      .ok (.cbRes6H, []), .ok (.cbRes6L, []), .ok (.cbRes6MemHl, []), .ok (.cbRes6A, []),
      .ok (.cbRes7B, []), .ok (.cbRes7C, []), .ok (.cbRes7D, []), .ok (.cbRes7E, []),
      .ok (.cbRes7H, []), .ok (.cbRes7L, []), .ok (.cbRes7MemHl, []), .ok (.cbRes7A, [])] := rfl

theorem test_decode_cb_Cx :
    ([
      decode [0xCB, 0xC0], decode [0xCB, 0xC1], decode [0xCB, 0xC2], decode [0xCB, 0xC3],
      decode [0xCB, 0xC4], decode [0xCB, 0xC5], decode [0xCB, 0xC6], decode [0xCB, 0xC7],
      decode [0xCB, 0xC8], decode [0xCB, 0xC9], decode [0xCB, 0xCA], decode [0xCB, 0xCB],
      decode [0xCB, 0xCC], decode [0xCB, 0xCD], decode [0xCB, 0xCE], decode [0xCB, 0xCF]] :
      List (Except DecodeError (Instr × List Byte))) = [
      .ok (.cbSet0B, []), .ok (.cbSet0C, []), .ok (.cbSet0D, []), .ok (.cbSet0E, []),
      .ok (.cbSet0H, []), .ok (.cbSet0L, []), .ok (.cbSet0MemHl, []), .ok (.cbSet0A, []),
      .ok (.cbSet1B, []), .ok (.cbSet1C, []), .ok (.cbSet1D, []), .ok (.cbSet1E, []),
      .ok (.cbSet1H, []), .ok (.cbSet1L, []), .ok (.cbSet1MemHl, []), .ok (.cbSet1A, [])] := rfl

theorem test_decode_cb_Dx :
    ([
      decode [0xCB, 0xD0], decode [0xCB, 0xD1], decode [0xCB, 0xD2], decode [0xCB, 0xD3],
      decode [0xCB, 0xD4], decode [0xCB, 0xD5], decode [0xCB, 0xD6], decode [0xCB, 0xD7],
      decode [0xCB, 0xD8], decode [0xCB, 0xD9], decode [0xCB, 0xDA], decode [0xCB, 0xDB],
      decode [0xCB, 0xDC], decode [0xCB, 0xDD], decode [0xCB, 0xDE], decode [0xCB, 0xDF]] :
      List (Except DecodeError (Instr × List Byte))) = [
      .ok (.cbSet2B, []), .ok (.cbSet2C, []), .ok (.cbSet2D, []), .ok (.cbSet2E, []),
      .ok (.cbSet2H, []), .ok (.cbSet2L, []), .ok (.cbSet2MemHl, []), .ok (.cbSet2A, []),
      .ok (.cbSet3B, []), .ok (.cbSet3C, []), .ok (.cbSet3D, []), .ok (.cbSet3E, []),
      .ok (.cbSet3H, []), .ok (.cbSet3L, []), .ok (.cbSet3MemHl, []), .ok (.cbSet3A, [])] := rfl

theorem test_decode_cb_Ex :
    ([
      decode [0xCB, 0xE0], decode [0xCB, 0xE1], decode [0xCB, 0xE2], decode [0xCB, 0xE3],
      decode [0xCB, 0xE4], decode [0xCB, 0xE5], decode [0xCB, 0xE6], decode [0xCB, 0xE7],
      decode [0xCB, 0xE8], decode [0xCB, 0xE9], decode [0xCB, 0xEA], decode [0xCB, 0xEB],
      decode [0xCB, 0xEC], decode [0xCB, 0xED], decode [0xCB, 0xEE], decode [0xCB, 0xEF]] :
      List (Except DecodeError (Instr × List Byte))) = [
      .ok (.cbSet4B, []), .ok (.cbSet4C, []), .ok (.cbSet4D, []), .ok (.cbSet4E, []),
      .ok (.cbSet4H, []), .ok (.cbSet4L, []), .ok (.cbSet4MemHl, []), .ok (.cbSet4A, []),
      .ok (.cbSet5B, []), .ok (.cbSet5C, []), .ok (.cbSet5D, []), .ok (.cbSet5E, []),
      .ok (.cbSet5H, []), .ok (.cbSet5L, []), .ok (.cbSet5MemHl, []), .ok (.cbSet5A, [])] := rfl

theorem test_decode_cb_Fx :
    ([
      decode [0xCB, 0xF0], decode [0xCB, 0xF1], decode [0xCB, 0xF2], decode [0xCB, 0xF3],
      decode [0xCB, 0xF4], decode [0xCB, 0xF5], decode [0xCB, 0xF6], decode [0xCB, 0xF7],
      decode [0xCB, 0xF8], decode [0xCB, 0xF9], decode [0xCB, 0xFA], decode [0xCB, 0xFB],
      decode [0xCB, 0xFC], decode [0xCB, 0xFD], decode [0xCB, 0xFE], decode [0xCB, 0xFF]] :
      List (Except DecodeError (Instr × List Byte))) = [
      .ok (.cbSet6B, []), .ok (.cbSet6C, []), .ok (.cbSet6D, []), .ok (.cbSet6E, []),
      .ok (.cbSet6H, []), .ok (.cbSet6L, []), .ok (.cbSet6MemHl, []), .ok (.cbSet6A, []),
      .ok (.cbSet7B, []), .ok (.cbSet7C, []), .ok (.cbSet7D, []), .ok (.cbSet7E, []),
      .ok (.cbSet7H, []), .ok (.cbSet7L, []), .ok (.cbSet7MemHl, []), .ok (.cbSet7A, [])] := rfl

/-! ## One step of one instruction of each rule (95_test_vectors.md Part 2) -/

/-- R201, LD B,A. -/
theorem test_r201_ld_b_a : (after [0x47] []
    { State.reset.cpu with a := 0x5A, b := 0x0, f := 0x0 }).map (fun t => [t.cpu.a.toNat, t.cpu.f.toNat, t.cpu.b.toNat, t.cpu.pc.toNat, t.cycles]) =
    some [0x5A, 0x0, 0x5A, 0x101, 1] := by decide

/-- R202, LD E,0x7F. -/
theorem test_r202_ld_e_0x7f : (after [0x1E, 0x7F] []
    { State.reset.cpu with e := 0x0, f := 0x0 }).map (fun t => [t.cpu.f.toNat, t.cpu.e.toNat, t.cpu.pc.toNat, t.cycles]) =
    some [0x0, 0x7F, 0x102, 2] := by decide

/-- R203, LD D,(HL). -/
theorem test_r203_ld_d_hl : (after [0x56] [(0xC010, 0x99)]
    { State.reset.cpu with h := 0xC0, l := 0x10, f := 0x0 }).map (fun t => [t.cpu.f.toNat, t.cpu.d.toNat, t.cpu.pc.toNat, t.cycles]) =
    some [0x0, 0x99, 0x101, 2] := by decide

/-- R204, LD (HL),C. -/
theorem test_r204_ld_hl_c : (after [0x71] []
    { State.reset.cpu with h := 0xC0, l := 0x20, c := 0x3C, f := 0x0 }).map (fun t => [t.cpu.f.toNat, t.cpu.pc.toNat, (t.peek 0xC020).toNat, t.cycles]) =
    some [0x0, 0x101, 0x3C, 2] := by decide

/-- R205, LD (HL),0xA5. -/
theorem test_r205_ld_hl_0xa5 : (after [0x36, 0xA5] []
    { State.reset.cpu with h := 0xC1, l := 0x0, f := 0x0 }).map (fun t => [t.cpu.f.toNat, t.cpu.pc.toNat, (t.peek 0xC100).toNat, t.cycles]) =
    some [0x0, 0x102, 0xA5, 3] := by decide

/-- R206, LD A,(DE). -/
theorem test_r206_ld_a_de : (after [0x1A] [(0xC005, 0x42)]
    { State.reset.cpu with d := 0xC0, e := 0x5, f := 0x0 }).map (fun t => [t.cpu.a.toNat, t.cpu.f.toNat, t.cpu.pc.toNat, t.cycles]) =
    some [0x42, 0x0, 0x101, 2] := by decide

/-- R207, LD (BC),A. -/
theorem test_r207_ld_bc_a : (after [0x02] []
    { State.reset.cpu with b := 0xC0, c := 0x6, a := 0x77, f := 0x0 }).map (fun t => [t.cpu.a.toNat, t.cpu.f.toNat, t.cpu.pc.toNat, (t.peek 0xC006).toNat, t.cycles]) =
    some [0x77, 0x0, 0x101, 0x77, 2] := by decide

/-- R208, LD A,(0xC123). -/
theorem test_r208_ld_a_0xc123 : (after [0xFA, 0x23, 0xC1] [(0xC123, 0xEE)]
    { State.reset.cpu with f := 0x0 }).map (fun t => [t.cpu.a.toNat, t.cpu.f.toNat, t.cpu.pc.toNat, t.cycles]) =
    some [0xEE, 0x0, 0x103, 4] := by decide

/-- R209, LD (0xFF80),A. -/
theorem test_r209_ld_0xff80_a : (after [0xEA, 0x80, 0xFF] []
    { State.reset.cpu with a := 0x12, f := 0x0 }).map (fun t => [t.cpu.a.toNat, t.cpu.f.toNat, t.cpu.pc.toNat, (t.peek 0xFF80).toNat, t.cycles]) =
    some [0x12, 0x0, 0x103, 0x12, 4] := by decide

/-- R210, LDH A,(0x05) (TIMA). -/
theorem test_r210_ldh_a_0x05_tima : (after [0xF0, 0x05] [(0xFF05, 0x33)]
    { State.reset.cpu with f := 0x0 }).map (fun t => [t.cpu.a.toNat, t.cpu.f.toNat, t.cpu.pc.toNat, t.cycles]) =
    some [0x33, 0x0, 0x102, 3] := by decide

/-- R211, LDH (0x81),A. -/
theorem test_r211_ldh_0x81_a : (after [0xE0, 0x81] []
    { State.reset.cpu with a := 0xAB, f := 0x0 }).map (fun t => [t.cpu.a.toNat, t.cpu.f.toNat, t.cpu.pc.toNat, (t.peek 0xFF81).toNat, t.cycles]) =
    some [0xAB, 0x0, 0x102, 0xAB, 3] := by decide

/-- R212, LD A,(C) with C=0x80. -/
theorem test_r212_ld_a_c_with_c_0x80 : (after [0xF2] [(0xFF80, 0x5E)]
    { State.reset.cpu with c := 0x80, f := 0x0 }).map (fun t => [t.cpu.a.toNat, t.cpu.f.toNat, t.cpu.pc.toNat, t.cycles]) =
    some [0x5E, 0x0, 0x101, 2] := by decide

/-- R213, LD (C),A with C=0x0F (IF). -/
theorem test_r213_ld_c_a_with_c_0x0f_if : (after [0xE2] []
    { State.reset.cpu with c := 0xF, a := 0xFF, f := 0x0 }).map (fun t => [t.cpu.a.toNat, t.cpu.f.toNat, t.cpu.pc.toNat, (t.peek 0xFF0F).toNat, t.cycles]) =
    some [0xFF, 0x0, 0x101, 0xFF, 2] := by decide

/-- R214, LD A,(HL+) HL=0xC0FF. -/
theorem test_r214_ld_a_hl_hl_0xc0ff : (after [0x2A] [(0xC0FF, 0x01)]
    { State.reset.cpu with h := 0xC0, l := 0xFF, f := 0x0 }).map (fun t => [t.cpu.f.toNat, t.cpu.h.toNat, t.cpu.l.toNat, t.cpu.pc.toNat, t.cycles]) =
    some [0x0, 0xC1, 0x0, 0x101, 2] := by decide

/-- R215, LD A,(HL-) HL=0xC000. -/
theorem test_r215_ld_a_hl_hl_0xc000 : (after [0x3A] [(0xC000, 0x02)]
    { State.reset.cpu with h := 0xC0, l := 0x0, f := 0x0 }).map (fun t => [t.cpu.a.toNat, t.cpu.f.toNat, t.cpu.h.toNat, t.cpu.l.toNat, t.cpu.pc.toNat, t.cycles]) =
    some [0x2, 0x0, 0xBF, 0xFF, 0x101, 2] := by decide

/-- R216, LD (HL+),A HL=0xFFFF. -/
theorem test_r216_ld_hl_a_hl_0xffff : (after [0x22] []
    { State.reset.cpu with h := 0xFF, l := 0xFF, a := 0x1F, f := 0x0 }).map (fun t => [t.cpu.a.toNat, t.cpu.f.toNat, t.cpu.h.toNat, t.cpu.l.toNat, t.cpu.pc.toNat, (t.peek 0xFFFF).toNat, t.cycles]) =
    some [0x1F, 0x0, 0x0, 0x0, 0x101, 0x1F, 2] := by decide

/-- R217, LD (HL-),A HL=0xC000. -/
theorem test_r217_ld_hl_a_hl_0xc000 : (after [0x32] []
    { State.reset.cpu with h := 0xC0, l := 0x0, a := 0x66, f := 0x0 }).map (fun t => [t.cpu.a.toNat, t.cpu.f.toNat, t.cpu.h.toNat, t.cpu.l.toNat, t.cpu.pc.toNat, (t.peek 0xC000).toNat, t.cycles]) =
    some [0x66, 0x0, 0xBF, 0xFF, 0x101, 0x66, 2] := by decide

/-- R230, LD SP,0xDFFF. -/
theorem test_r230_ld_sp_0xdfff : (after [0x31, 0xFF, 0xDF] []
    { State.reset.cpu with f := 0x0 }).map (fun t => [t.cpu.f.toNat, t.cpu.sp.toNat, t.cpu.pc.toNat, t.cycles]) =
    some [0x0, 0xDFFF, 0x103, 3] := by decide

/-- R231, LD (0xC200),SP. -/
theorem test_r231_ld_0xc200_sp : (after [0x08, 0x00, 0xC2] []
    { State.reset.cpu with sp := 0xBEEF, f := 0x0 }).map (fun t => [t.cpu.f.toNat, t.cpu.pc.toNat, (t.peek 0xC200).toNat, (t.peek 0xC201).toNat, t.cycles]) =
    some [0x0, 0x103, 0xEF, 0xBE, 5] := by decide

/-- R232, LD SP,HL. -/
theorem test_r232_ld_sp_hl : (after [0xF9] []
    { State.reset.cpu with h := 0xC3, l := 0x21, f := 0x0 }).map (fun t => [t.cpu.f.toNat, t.cpu.sp.toNat, t.cpu.pc.toNat, t.cycles]) =
    some [0x0, 0xC321, 0x101, 2] := by decide

/-- R233, LD HL,SP-1 SP=0x0000. -/
theorem test_r233_ld_hl_sp_1_sp_0x0000 : (after [0xF8, 0xFF] []
    { State.reset.cpu with sp := 0x0, f := 0x0 }).map (fun t => [t.cpu.f.toNat, t.cpu.h.toNat, t.cpu.l.toNat, t.cpu.pc.toNat, t.cycles]) =
    some [0x0, 0xFF, 0xFF, 0x102, 3] := by decide

/-- R234, PUSH BC. -/
theorem test_r234_push_bc : (after [0xC5] []
    { State.reset.cpu with b := 0x12, c := 0x34, sp := 0xDFF0, f := 0x0 }).map (fun t => [t.cpu.f.toNat, t.cpu.sp.toNat, t.cpu.pc.toNat, (t.peek 0xDFEF).toNat, (t.peek 0xDFEE).toNat, t.cycles]) =
    some [0x0, 0xDFEE, 0x101, 0x12, 0x34, 4] := by decide

/-- R235, POP DE. -/
theorem test_r235_pop_de : (after [0xD1] [(0xDFEE, 0x34), (0xDFEF, 0x12)]
    { State.reset.cpu with sp := 0xDFEE, f := 0x0 }).map (fun t => [t.cpu.f.toNat, t.cpu.d.toNat, t.cpu.e.toNat, t.cpu.sp.toNat, t.cpu.pc.toNat, t.cycles]) =
    some [0x0, 0x12, 0x34, 0xDFF0, 0x101, 3] := by decide

/-- R236, POP AF. -/
theorem test_r236_pop_af : (after [0xF1] [(0xDFEE, 0xFF), (0xDFEF, 0x12)]
    { State.reset.cpu with sp := 0xDFEE, f := 0x0 }).map (fun t => [t.cpu.a.toNat, t.cpu.f.toNat, t.cpu.sp.toNat, t.cpu.pc.toNat, t.cycles]) =
    some [0x12, 0xF0, 0xDFF0, 0x101, 3] := by decide

/-- R251, ADD A,B. -/
theorem test_r251_add_a_b : (after [0x80] []
    { State.reset.cpu with a := 0xFF, b := 0x1, f := 0x0 }).map (fun t => [t.cpu.a.toNat, t.cpu.f.toNat, t.cpu.pc.toNat, t.cycles]) =
    some [0x0, 0xB0, 0x101, 1] := by decide

/-- R252, ADC A,C carry in. -/
theorem test_r252_adc_a_c_carry_in : (after [0x89] []
    { State.reset.cpu with a := 0xE, c := 0x1, f := 0x10 }).map (fun t => [t.cpu.a.toNat, t.cpu.f.toNat, t.cpu.pc.toNat, t.cycles]) =
    some [0x10, 0x20, 0x101, 1] := by decide

/-- R253, SUB A,d8. -/
theorem test_r253_sub_a_d8 : (after [0xD6, 0x01] []
    { State.reset.cpu with a := 0x0, f := 0x0 }).map (fun t => [t.cpu.a.toNat, t.cpu.f.toNat, t.cpu.pc.toNat, t.cycles]) =
    some [0xFF, 0x70, 0x102, 2] := by decide

/-- R254, SBC A,B carry in. -/
theorem test_r254_sbc_a_b_carry_in : (after [0x98] []
    { State.reset.cpu with a := 0x0, b := 0xFF, f := 0x10 }).map (fun t => [t.cpu.a.toNat, t.cpu.f.toNat, t.cpu.pc.toNat, t.cycles]) =
    some [0x0, 0xF0, 0x101, 1] := by decide

/-- R255, AND A,d8. -/
theorem test_r255_and_a_d8 : (after [0xE6, 0x0F] []
    { State.reset.cpu with a := 0xF0, f := 0x10 }).map (fun t => [t.cpu.a.toNat, t.cpu.f.toNat, t.cpu.pc.toNat, t.cycles]) =
    some [0x0, 0xA0, 0x102, 2] := by decide

/-- R256, XOR A,A. -/
theorem test_r256_xor_a_a : (after [0xAF] []
    { State.reset.cpu with a := 0x5A, f := 0x70 }).map (fun t => [t.cpu.a.toNat, t.cpu.f.toNat, t.cpu.pc.toNat, t.cycles]) =
    some [0x0, 0x80, 0x101, 1] := by decide

/-- R257, OR A,(HL). -/
theorem test_r257_or_a_hl : (after [0xB6] [(0xC000, 0x00)]
    { State.reset.cpu with a := 0x0, h := 0xC0, l := 0x0, f := 0x0 }).map (fun t => [t.cpu.a.toNat, t.cpu.f.toNat, t.cpu.pc.toNat, t.cycles]) =
    some [0x0, 0x80, 0x101, 2] := by decide

/-- R258, CP A,d8 equal. -/
theorem test_r258_cp_a_d8_equal : (after [0xFE, 0x3C] []
    { State.reset.cpu with a := 0x3C, f := 0x0 }).map (fun t => [t.cpu.a.toNat, t.cpu.f.toNat, t.cpu.pc.toNat, t.cycles]) =
    some [0x3C, 0xC0, 0x102, 2] := by decide

/-- R259, INC A from 0xFF. -/
theorem test_r259_inc_a_from_0xff : (after [0x3C] []
    { State.reset.cpu with a := 0xFF, f := 0x10 }).map (fun t => [t.cpu.a.toNat, t.cpu.f.toNat, t.cpu.pc.toNat, t.cycles]) =
    some [0x0, 0xB0, 0x101, 1] := by decide

/-- R260, INC (HL). -/
theorem test_r260_inc_hl : (after [0x34] [(0xC000, 0x7F)]
    { State.reset.cpu with h := 0xC0, l := 0x0, f := 0x0 }).map (fun t => [t.cpu.f.toNat, t.cpu.pc.toNat, (t.peek 0xC000).toNat, t.cycles]) =
    some [0x20, 0x101, 0x80, 3] := by decide

/-- R261, DEC C from 0x01. -/
theorem test_r261_dec_c_from_0x01 : (after [0x0D] []
    { State.reset.cpu with c := 0x1, f := 0x10 }).map (fun t => [t.cpu.f.toNat, t.cpu.c.toNat, t.cpu.pc.toNat, t.cycles]) =
    some [0xD0, 0x0, 0x101, 1] := by decide

/-- R262, DEC (HL). -/
theorem test_r262_dec_hl : (after [0x35] [(0xC000, 0x00)]
    { State.reset.cpu with h := 0xC0, l := 0x0, f := 0x0 }).map (fun t => [t.cpu.f.toNat, t.cpu.pc.toNat, (t.peek 0xC000).toNat, t.cycles]) =
    some [0x60, 0x101, 0xFF, 3] := by decide

/-- R263, DAA after 0x45+0x38. -/
theorem test_r263_daa_after_0x45_0x38 : (after [0x27] []
    { State.reset.cpu with a := 0x7D, f := 0x0 }).map (fun t => [t.cpu.a.toNat, t.cpu.f.toNat, t.cpu.pc.toNat, t.cycles]) =
    some [0x83, 0x0, 0x101, 1] := by decide

/-- R264, CPL. -/
theorem test_r264_cpl : (after [0x2F] []
    { State.reset.cpu with a := 0x35, f := 0x80 }).map (fun t => [t.cpu.a.toNat, t.cpu.f.toNat, t.cpu.pc.toNat, t.cycles]) =
    some [0xCA, 0xE0, 0x101, 1] := by decide

/-- R265, SCF. -/
theorem test_r265_scf : (after [0x37] []
    { State.reset.cpu with f := 0xE0 }).map (fun t => [t.cpu.f.toNat, t.cpu.pc.toNat, t.cycles]) =
    some [0x90, 0x101, 1] := by decide

/-- R266, CCF. -/
theorem test_r266_ccf : (after [0x3F] []
    { State.reset.cpu with f := 0x70 }).map (fun t => [t.cpu.f.toNat, t.cpu.pc.toNat, t.cycles]) =
    some [0x0, 0x101, 1] := by decide

/-- R280, INC SP from 0xFFFF. -/
theorem test_r280_inc_sp_from_0xffff : (after [0x33] []
    { State.reset.cpu with sp := 0xFFFF, f := 0x0 }).map (fun t => [t.cpu.f.toNat, t.cpu.sp.toNat, t.cpu.pc.toNat, t.cycles]) =
    some [0x0, 0x0, 0x101, 2] := by decide

/-- R281, DEC BC from 0x0000. -/
theorem test_r281_dec_bc_from_0x0000 : (after [0x0B] []
    { State.reset.cpu with b := 0x0, c := 0x0, f := 0xF0 }).map (fun t => [t.cpu.f.toNat, t.cpu.b.toNat, t.cpu.c.toNat, t.cpu.pc.toNat, t.cycles]) =
    some [0xF0, 0xFF, 0xFF, 0x101, 2] := by decide

/-- R282, ADD HL,BC. -/
theorem test_r282_add_hl_bc : (after [0x09] []
    { State.reset.cpu with h := 0x8A, l := 0x23, b := 0x6, c := 0x5, f := 0x80 }).map (fun t => [t.cpu.f.toNat, t.cpu.h.toNat, t.cpu.l.toNat, t.cpu.pc.toNat, t.cycles]) =
    some [0xA0, 0x90, 0x28, 0x101, 2] := by decide

/-- R283, ADD SP,-2 SP=0xFFF8. -/
theorem test_r283_add_sp_2_sp_0xfff8 : (after [0xE8, 0xFE] []
    { State.reset.cpu with sp := 0xFFF8, f := 0x80 }).map (fun t => [t.cpu.f.toNat, t.cpu.sp.toNat, t.cpu.pc.toNat, t.cycles]) =
    some [0x30, 0xFFF6, 0x102, 4] := by decide

/-- R290, RLCA. -/
theorem test_r290_rlca : (after [0x07] []
    { State.reset.cpu with a := 0x85, f := 0x80 }).map (fun t => [t.cpu.a.toNat, t.cpu.f.toNat, t.cpu.pc.toNat, t.cycles]) =
    some [0xB, 0x10, 0x101, 1] := by decide

/-- R291, RRCA. -/
theorem test_r291_rrca : (after [0x0F] []
    { State.reset.cpu with a := 0x1, f := 0x0 }).map (fun t => [t.cpu.a.toNat, t.cpu.f.toNat, t.cpu.pc.toNat, t.cycles]) =
    some [0x80, 0x10, 0x101, 1] := by decide

/-- R292, RLA. -/
theorem test_r292_rla : (after [0x17] []
    { State.reset.cpu with a := 0x80, f := 0x0 }).map (fun t => [t.cpu.a.toNat, t.cpu.f.toNat, t.cpu.pc.toNat, t.cycles]) =
    some [0x0, 0x10, 0x101, 1] := by decide

/-- R293, RRA. -/
theorem test_r293_rra : (after [0x1F] []
    { State.reset.cpu with a := 0x1, f := 0x10 }).map (fun t => [t.cpu.a.toNat, t.cpu.f.toNat, t.cpu.pc.toNat, t.cycles]) =
    some [0x80, 0x10, 0x101, 1] := by decide

/-- R295, RLC B. -/
theorem test_r295_rlc_b : (after [0xCB, 0x00] []
    { State.reset.cpu with b := 0x0, f := 0x10 }).map (fun t => [t.cpu.f.toNat, t.cpu.pc.toNat, t.cycles]) =
    some [0x80, 0x102, 2] := by decide

/-- R296, RRC C. -/
theorem test_r296_rrc_c : (after [0xCB, 0x09] []
    { State.reset.cpu with c := 0x1, f := 0x0 }).map (fun t => [t.cpu.f.toNat, t.cpu.c.toNat, t.cpu.pc.toNat, t.cycles]) =
    some [0x10, 0x80, 0x102, 2] := by decide

/-- R297, RL D. -/
theorem test_r297_rl_d : (after [0xCB, 0x12] []
    { State.reset.cpu with d := 0x80, f := 0x0 }).map (fun t => [t.cpu.f.toNat, t.cpu.d.toNat, t.cpu.pc.toNat, t.cycles]) =
    some [0x90, 0x0, 0x102, 2] := by decide

/-- R298, RR E. -/
theorem test_r298_rr_e : (after [0xCB, 0x1B] []
    { State.reset.cpu with e := 0x1, f := 0x10 }).map (fun t => [t.cpu.f.toNat, t.cpu.e.toNat, t.cpu.pc.toNat, t.cycles]) =
    some [0x10, 0x80, 0x102, 2] := by decide

/-- R299, SLA H. -/
theorem test_r299_sla_h : (after [0xCB, 0x24] []
    { State.reset.cpu with h := 0xC0, f := 0x0 }).map (fun t => [t.cpu.f.toNat, t.cpu.h.toNat, t.cpu.pc.toNat, t.cycles]) =
    some [0x10, 0x80, 0x102, 2] := by decide

/-- R300, SRA L. -/
theorem test_r300_sra_l : (after [0xCB, 0x2D] []
    { State.reset.cpu with l := 0x81, f := 0x0 }).map (fun t => [t.cpu.f.toNat, t.cpu.l.toNat, t.cpu.pc.toNat, t.cycles]) =
    some [0x10, 0xC0, 0x102, 2] := by decide

/-- R301, SWAP A. -/
theorem test_r301_swap_a : (after [0xCB, 0x37] []
    { State.reset.cpu with a := 0xF1, f := 0x10 }).map (fun t => [t.cpu.a.toNat, t.cpu.f.toNat, t.cpu.pc.toNat, t.cycles]) =
    some [0x1F, 0x0, 0x102, 2] := by decide

/-- R302, SRL A. -/
theorem test_r302_srl_a : (after [0xCB, 0x3F] []
    { State.reset.cpu with a := 0x1, f := 0x0 }).map (fun t => [t.cpu.a.toNat, t.cpu.f.toNat, t.cpu.pc.toNat, t.cycles]) =
    some [0x0, 0x90, 0x102, 2] := by decide

/-- R303, BIT 3,(HL). -/
theorem test_r303_bit_3_hl : (after [0xCB, 0x5E] [(0xC000, 0x08)]
    { State.reset.cpu with h := 0xC0, l := 0x0, f := 0x0 }).map (fun t => [t.cpu.f.toNat, t.cpu.pc.toNat, t.cycles]) =
    some [0x20, 0x102, 3] := by decide

/-- R304, RES 0,(HL). -/
theorem test_r304_res_0_hl : (after [0xCB, 0x86] [(0xC000, 0xFF)]
    { State.reset.cpu with h := 0xC0, l := 0x0, f := 0x0 }).map (fun t => [t.cpu.f.toNat, t.cpu.pc.toNat, (t.peek 0xC000).toNat, t.cycles]) =
    some [0x0, 0x102, 0xFE, 4] := by decide

/-- R305, SET 7,A. -/
theorem test_r305_set_7_a : (after [0xCB, 0xFF] []
    { State.reset.cpu with a := 0x0, f := 0x0 }).map (fun t => [t.cpu.a.toNat, t.cpu.f.toNat, t.cpu.pc.toNat, t.cycles]) =
    some [0x80, 0x0, 0x102, 2] := by decide

/-- R321, JP 0x0150. -/
theorem test_r321_jp_0x0150 : (after [0xC3, 0x50, 0x01] []
    { State.reset.cpu with f := 0x0 }).map (fun t => [t.cpu.f.toNat, t.cpu.pc.toNat, t.cycles]) =
    some [0x0, 0x150, 4] := by decide

/-- R322, JP NZ,0x0150 (Z=1, not taken). -/
theorem test_r322_jp_nz_0x0150_z_1_not_taken : (after [0xC2, 0x50, 0x01] []
    { State.reset.cpu with f := 0x80 }).map (fun t => [t.cpu.f.toNat, t.cpu.pc.toNat, t.cycles]) =
    some [0x80, 0x103, 3] := by decide

/-- R323, JP HL. -/
theorem test_r323_jp_hl : (after [0xE9] []
    { State.reset.cpu with h := 0x12, l := 0x34, f := 0x0 }).map (fun t => [t.cpu.f.toNat, t.cpu.pc.toNat, t.cycles]) =
    some [0x0, 0x1234, 1] := by decide

/-- R324, JR -2. -/
theorem test_r324_jr_2 : (after [0x18, 0xFE] []
    { State.reset.cpu with f := 0x0 }).map (fun t => [t.cpu.f.toNat, t.cpu.pc.toNat, t.cycles]) =
    some [0x0, 0x100, 3] := by decide

/-- R325, JR C,-0x80 (C=1, taken). -/
theorem test_r325_jr_c_0x80_c_1_taken : (after [0x38, 0x80] []
    { State.reset.cpu with f := 0x10 }).map (fun t => [t.cpu.f.toNat, t.cpu.pc.toNat, t.cycles]) =
    some [0x10, 0x82, 3] := by decide

/-- R326, CALL 0x1234. -/
theorem test_r326_call_0x1234 : (after [0xCD, 0x34, 0x12] []
    { State.reset.cpu with sp := 0xDFF0, f := 0x0 }).map (fun t => [t.cpu.f.toNat, t.cpu.sp.toNat, t.cpu.pc.toNat, (t.peek 0xDFEF).toNat, (t.peek 0xDFEE).toNat, t.cycles]) =
    some [0x0, 0xDFEE, 0x1234, 0x1, 0x3, 6] := by decide

/-- R327, CALL C,0x1234 (C=0, not taken). -/
theorem test_r327_call_c_0x1234_c_0_not_taken : (after [0xDC, 0x34, 0x12] []
    { State.reset.cpu with sp := 0xDFF0, f := 0x0 }).map (fun t => [t.cpu.f.toNat, t.cpu.pc.toNat, t.cycles]) =
    some [0x0, 0x103, 3] := by decide

/-- R328, RET. -/
theorem test_r328_ret : (after [0xC9] [(0xDFEE, 0x03), (0xDFEF, 0x01)]
    { State.reset.cpu with sp := 0xDFEE, f := 0x0 }).map (fun t => [t.cpu.f.toNat, t.cpu.sp.toNat, t.cpu.pc.toNat, t.cycles]) =
    some [0x0, 0xDFF0, 0x103, 4] := by decide

/-- R329, RET NZ (Z=0, taken). -/
theorem test_r329_ret_nz_z_0_taken : (after [0xC0] [(0xDFEE, 0x03), (0xDFEF, 0x01)]
    { State.reset.cpu with sp := 0xDFEE, f := 0x0 }).map (fun t => [t.cpu.f.toNat, t.cpu.sp.toNat, t.cpu.pc.toNat, t.cycles]) =
    some [0x0, 0xDFF0, 0x103, 5] := by decide

/-- R330, RETI. -/
theorem test_r330_reti : (after [0xD9] [(0xDFEE, 0x03), (0xDFEF, 0x01)]
    { State.reset.cpu with sp := 0xDFEE, f := 0x0 }).map (fun t => [t.cpu.f.toNat, t.cpu.sp.toNat, t.cpu.pc.toNat, t.cpu.ime.toNat, t.cycles]) =
    some [0x0, 0xDFF0, 0x103, 1, 4] := by decide

/-- R331, RST 28H. -/
theorem test_r331_rst_28h : (after [0xEF] []
    { State.reset.cpu with sp := 0xFFFE, f := 0x0 }).map (fun t => [t.cpu.f.toNat, t.cpu.sp.toNat, t.cpu.pc.toNat, (t.peek 0xFFFD).toNat, (t.peek 0xFFFC).toNat, t.cycles]) =
    some [0x0, 0xFFFC, 0x28, 0x1, 0x1, 4] := by decide

/-- R340, NOP. -/
theorem test_r340_nop : (after [0x00] []
    { State.reset.cpu with f := 0x0 }).map (fun t => [t.cpu.f.toNat, t.cpu.pc.toNat, t.cycles]) =
    some [0x0, 0x101, 1] := by decide

/-- R341, HALT. -/
theorem test_r341_halt : (after [0x76] []
    { State.reset.cpu with f := 0x0 }).map (fun t => [t.cpu.f.toNat, t.cpu.pc.toNat, t.cpu.halted.toNat, t.cycles]) =
    some [0x0, 0x101, 1, 1] := by decide

/-- R343, DI. -/
theorem test_r343_di : (after [0xF3] []
    { State.reset.cpu with f := 0x0, ime := true }).map (fun t => [t.cpu.f.toNat, t.cpu.pc.toNat, t.cycles]) =
    some [0x0, 0x101, 1] := by decide

/-- R344, EI. -/
theorem test_r344_ei : (after [0xFB] []
    { State.reset.cpu with f := 0x0 }).map (fun t => [t.cpu.f.toNat, t.cpu.pc.toNat, t.cpu.ime.toNat, t.cycles]) =
    some [0x0, 0x101, 1, 1] := by decide

/-! ## Stops, interrupts and devices (95_test_vectors.md Parts 1 to 3) -/

/-- R342: STOP refuses with its own address; its step is one cycle. -/
theorem test_r342_stop : (after [0x10, 0x00] [] State.reset.cpu).map
    (fun t => (t.status, t.cpu.pc, t.cycles)) = some (.refused (.refusedStop 0x0100), 0x0101, 1) := by
  decide

/-- R345, program P6: an illegal opcode faults with the opcode and its address. -/
theorem test_r345_illegal_d3 : (after [0xD3] [] State.reset.cpu).map
    (fun t => (t.status, t.cpu.pc, t.cycles)) = some (.faulted (.illegalOpcode 0xD3 0x0100), 0x0101, 1) := by
  decide

/-- R38: a stopped machine takes no further step. -/
theorem test_r38_no_step : step { State.reset with status := .refused (.refusedStop 0x0100) } =
    .refused (.refusedStop 0x0100) := rfl

/-- S6: VBlank before Timer; only VBlank's request is cleared. -/
theorem test_s6_priority :
    (next { start [0x00] [] { State.reset.cpu with sp := 0xDFF0, ime := true } with
      irq := { ie := 0x05, req := 0b00101 } }).map
      (fun t => ([t.cpu.pc, t.cpu.sp], [t.peek 0xDFEF, t.peek 0xDFEE], t.irq.req, t.cpu.ime, t.cycles)) =
    some ([0x0040, 0xDFEE], [0x01, 0x01], 0b00100, false, 3) := by decide

/-- A dispatch whose push overwrites IE: the vector was chosen before (R406). -/
theorem test_r406_dispatch_over_ie :
    (next { start [0x00] [] { State.reset.cpu with sp := 0x0001, ime := true } with
      irq := { ie := 0x1F, req := 0x1F } }).map
      (fun t => ([t.cpu.pc, t.cpu.sp], t.irq.ie, t.irq.req, t.cycles)) =
    some ([0x0040, 0xFFFF], 0x01, 0x1E, 3) := by decide

/-- EI with a request pending: IME is set at the end of its step, nothing is dispatched (R577). -/
theorem test_r577_ei_pending :
    (next { start [0xFB, 0x00] [] State.reset.cpu with irq := { ie := 0x04, req := 0b00100 } }).map
      (fun t => (t.cpu.pc, t.cpu.ime, t.cpu.imePending, t.irq.req)) =
    some (0x0101, true, false, 0b00100) := by decide

/-- A halted step with a request and IME clear wakes and does not dispatch (R410, R186). -/
theorem test_r410_wake :
    (next { start [0x76, 0x00] [] { State.reset.cpu with pc := 0x0101, halted := true } with
      irq := { ie := 0x00, req := 0b01000 } }).map
      (fun t => (t.cpu.pc, t.cpu.halted, t.irq.req, t.cycles)) = some (0x0101, false, 0b01000, 1) := by decide

/-- A TIMA write lands before its own cycle's ticks (R445, R579). -/
theorem test_r579_tima_write :
    (next { start [0xE0, 0x05] [] { State.reset.cpu with a := 0xFF } with
      timer := { div := 0x0004, tima := 0x00, tma := 0x42, tac := 0b101 } }).map
      (fun t => (t.timer.tima, t.irq.req, t.timer.div)) = some (0x42, 0b00100, 0x0010) := by decide

/-- S4: the OAM DMA's first cycle is the write's own (R460, R465). -/
theorem test_s4_dma_start :
    (after [0xE0, 0x46] [] { State.reset.cpu with a := 0xC0 }).map
      (fun t => (t.dma.active, t.dma.index, t.dma.delay, t.peek 0xFF46)) = some (true, 0, 1, 0xC0) := by decide

/-- A CGB access to VBK is refused and the instruction ends there, its cycle not charged (R87, R587). -/
theorem test_r87_refused :
    (next { start [0xF0, 0x4F] [] { State.reset.cpu with a := 0x00 } with
      params := { Params.default with mode := .cgb } }).map
      (fun t => (t.cpu.a, t.cpu.pc, t.status, t.cycles)) =
    some (0x00, 0x0102, .refused (.refusedCgbVideo 0xFF4F), 2) := by decide

/-- An unhandled register reads 0 and records a warning (R88). -/
theorem test_r88_unhandled :
    (after [0xF0, 0x03] [] { State.reset.cpu with a := 0x77 }).map
      (fun t => (t.cpu.a, t.events, t.cycles)) = some (0x00, [.warning 0xFF03], 3) := by decide

/-- A CGB console with HDMA1-4 set to 0xC000 and 0x8000 and bytes in work RAM. -/
def hdmaConsole : State :=
  let s := withBytes (console .cgb) [(0xC000, 0x80), (0xC001, 0x81), (0xC01F, 0x9F)]
  { s with hdma := { s.hdma with hdma1 := 0xC0, hdma2 := 0x00, hdma3 := 0x80, hdma4 := 0x00 } }

/-- A write of 0x01 copies 32 bytes inside the write (R473, R479). -/
theorem test_r473_general_copy :
    (match busWrite 0xFF55 0x01 hdmaConsole with
      | .ok _ t => some ([t.peek 0x8000, t.peek 0x8001, t.peek 0x801F, t.peek 0xFF55], t.hdma.src, t.hdma.dst)
      | .stop _ => none) = some ([0x80, 0x81, 0x9F, 0xFF], 0xC020, 0x8020) := by decide

/-- A write of 0x83 then 0x00 aborts with the length kept (R476, R477). -/
theorem test_r476_abort :
    (match (busWrite 0xFF55 0x83 hdmaConsole).andThen fun _ t => busWrite 0xFF55 0x00 t with
      | .ok _ t => some (t.hdma.active, t.hdma.remaining, t.peek 0xFF55)
      | .stop _ => none) = some (false, 64, 0x83) := by decide

/-- The pixel vectors' tile, palettes and sprite: the tile's row is 0x0F, 0x33 (Part 3, Pixel pipeline). -/
def pixels (attr lo hi : Byte) : State :=
  let s := console .dmg
  { s with
    lcd := { s.lcd with lcdc := 0x93, bgp := 0xE4, obp0 := 0xE4 }
    pipe := { s.pipe with
      tileLo := 0x0F, tileHi := 0x33
      fetched := [{ index := 0, y := 16, x := 12, tile := 1, attr := attr }]
      spriteLo := [lo, 0, 0], spriteHi := [hi, 0, 0] } }

/-- Sprite over background: its colour 3 covers column 4, its colour 0 is transparent (R540). -/
theorem test_r540_sprite_over : (List.range 8).map (fun i => resolvePixel (pixels 0x00 0x80 0x80) i i) =
    [0xFFFFFFFF, 0xFFFFFFFF, 0xFF555555, 0xFF555555, 0xFF000000, 0xFFAAAAAA, 0xFF000000, 0xFF000000] := by
  decide

/-- Sprite behind background: it shows only where the background's colour is 0 (R540). -/
theorem test_r540_sprite_behind :
    [resolvePixel (pixels 0x80 0xFF 0xFF) 7 7, resolvePixel (pixels 0x80 0xFF 0xFF) 8 0,
      resolvePixel (pixels 0x80 0xFF 0xFF) 9 1, resolvePixel (pixels 0x80 0xFF 0xFF) 10 2] =
    [0xFF000000, 0xFF000000, 0xFF000000, 0xFF555555] := by decide

/-- The pixel vectors' sprite behind two others: one with no opaque pixel, one beyond the tile. -/
def layered : State :=
  let s := pixels 0x00 0x80 0x80
  { s with pipe := { s.pipe with
      fetched := [{ index := 0, y := 16, x := 12, tile := 1, attr := 0x10 },
        { index := 1, y := 16, x := 40, tile := 1, attr := 0x10 },
        { index := 2, y := 16, x := 12, tile := 1, attr := 0x00 }]
      spriteLo := [0x00, 0xFF, 0x80], spriteHi := [0x00, 0xFF, 0x80] } }

/-- A transparent sprite and one not over the pixel pass the decision on (R540): colour 3 at column 4 as with
the one sprite, the background's elsewhere. -/
theorem test_r540_passes_on : (List.range 8).map (fun i => resolvePixel layered i i) =
    [0xFFFFFFFF, 0xFFFFFFFF, 0xFF555555, 0xFF555555, 0xFF000000, 0xFFAAAAAA, 0xFF000000, 0xFF000000] := by
  decide

/-- A FIFO of nine pixels, about to pop its first. -/
def drawing (m : Mode) (fine : BitVec 3) (line : Byte) (column : Nat) : State :=
  let s := console m
  { s with
    lcd := { s.lcd with mode := .transfer, ly := line }
    pipe := { s.pipe with
      scxFine := fine, pushedX := column, fifo := 0xFF555555 :: List.replicate 8 0xFFFFFFFF } }

/-- A popped pixel stands at LY * 160 + pushed_x; the first SCX mod 8 are discarded (R543). -/
theorem test_r543_pop :
    (match popStep (drawing .dmg 0 2 5), popStep (drawing .dmg 1 2 5) with
      | .ok _ t, .ok _ u => some (t.mem.framebuffer, t.pipe.pushedX, u.mem.framebuffer, u.pipe.pushedX)
      | _, _ => none) = some ([(325, 0xFF555555)], 6, [], 5) := by decide

/-- An entry into mode 0 copies the next 16 bytes of an HBlank HDMA (R475, R478). -/
theorem test_r475_block :
    (match (busWrite 0xFF55 0x81 hdmaConsole).andThen fun _ t => enterMode .hblank t with
      | .ok _ t => some ([t.peek 0x8000, t.peek 0x8001, t.peek 0x801F, t.peek 0xFF55], t.hdma.remaining)
      | .stop _ => none) = some ([0x80, 0x81, 0x00, 0x00], 16) := by decide

/-- A console with lines of its own in `CYCLE_TABLE`: of LD B,d8, of JP NZ, of SWAP A, of the prefix byte. -/
def paced (program : List Byte) (f : Byte) : State :=
  { start program [] { State.reset.cpu with f := f } with
    params := { Params.default with cycleTable := [
      (.main 0x06, { fetch := [1], taken := [2] }), (.main 0xC2, { taken := [1], notTaken := 4 }),
      (.cb 0x37, { taken := [3] }), (.main 0xCB, { fetch := [5] })] } }

/-- Internal cycles of lines that are not the default's: one between the opcode and the immediate and two after
it (LD B,d8); four where the condition fails and one where it holds (JP NZ); five before the byte after 0xCB and
three after it (SWAP A). Accesses and results are the same (R189). -/
theorem test_r189_cycle_table :
    [paced [0x06, 0x5A] 0x00, paced [0xC2, 0x50, 0x01] 0x80, paced [0xC2, 0x50, 0x01] 0x00,
      paced [0xCB, 0x37] 0x00].map (fun s => (next s).map fun t => (t.cpu.a, t.cpu.b, t.cpu.pc, t.cycles)) =
    [some (0x01, 0x5A, 0x0102, 5), some (0x01, 0x00, 0x0103, 7), some (0x01, 0x00, 0x0150, 4),
      some (0x10, 0x00, 0x0102, 10)] := by decide

/-- Power-on with a `RESET_PROFILE` of its own takes its values (R571). -/
theorem test_r571_profile :
    let cpu : Cpu := { State.reset.cpu with a := 0x5A, pc := 0x0200 }
    let profile : ResetProfile := { ResetProfile.default with
      cgb := { ResetProfile.default.cgb with cpu := cpu }
      devices := { ResetProfile.default.devices with tima := 0x77 } }
    let s := State.powerOn { Params.default with mode := .cgb } profile 0x1234 Mem.empty Devices.unknown
    (s.cpu, s.timer.tima, s.timer.div) = (cpu, 0x77, 0x1234) := by decide

/-- Banked work RAM: SVBK 0 and 1 are bank 1, SVBK 2 is bank 2 (R83, S7). -/
theorem test_r83_banks :
    let s := { console .cgb with mem := { Mem.empty with wram := [(0x1000, 0x11), (0x2000, 0x22)] } }
    [s.peek 0xD000, { s with mem := { s.mem with svbk := 2 } }.peek 0xD000,
      { s with mem := { s.mem with svbk := 1 } }.peek 0xD000] = [0x11, 0x22, 0x11] := by decide

/-- `withFetchWord` places an instruction where the next step from reset fetches it (log 16). -/
theorem test_withFetchWord :
    (next (State.reset.withFetchWord 16 0x5A06)).map (fun t => (t.cpu.b, t.cpu.pc)) = some (0x5A, 0x0102) := by
  decide

/-! ## Witnesses: for each obligation with hypotheses, states and operands that meet them -/

/-- A byte of the cartridge, work RAM or high RAM is moved by no device. -/
theorem still_of_cart {s : State} {a : Word} (h : s.locate a = .cart) : s.StillByte a := by
  unfold State.StillByte
  rw [h]
  exact True.intro

theorem still_of_wram {s : State} {a : Word} {i : Nat} (h : s.locate a = .wram i) : s.StillByte a := by
  unfold State.StillByte
  rw [h]
  exact True.intro

/-- A DMG or CGB console that runs a program at 0x0100. -/
def running (m : Mode) (program : List Byte) : State :=
  { console m with
    dev := { cart := device (numbered 0x100 program), joypad := device [], serial := device [],
             sound := device [] } }

theorem coherent_console (m : Mode) (s : State) (h : s = console m) : Coherent s := by
  subst h
  exact ⟨fun h => absurd h (by simp [console, State.powerOn, ResetProfile.default]), by cases m <;> decide,
    fun _ => by cases m <;> decide, fun h => absurd h (by simp [console, State.powerOn, ResetProfile.default])⟩

theorem live_console : Live (console .dmg) := ⟨rfl, .inl (.inl rfl), coherent_console .dmg _ rfl⟩

theorem live_running (program : List Byte) : Live (running .dmg program) :=
  ⟨rfl, .inl (.inl rfl), live_console.coherent.of_eq rfl rfl rfl rfl rfl⟩

/-- A CGB console whose colour-mode video registers answer is live too. -/
def benignConsole : State :=
  { console .cgb with params := { Params.default with mode := .cgb, cgbVideoIo := .benign } }

theorem live_benign : Live benignConsole :=
  ⟨rfl, .inl (.inr rfl), ⟨fun h => absurd h (by decide), by decide, fun _ => by decide,
    fun h => absurd h (by decide)⟩⟩

/-- A CGB console whose colour-mode video registers refuse is live as long as no unit copies from them. -/
theorem live_cgb : Live (console .cgb) :=
  ⟨rfl, .inr ⟨fun h => absurd h (by decide), fun h => absurd h (by decide)⟩, coherent_console .cgb _ rfl⟩

/-- Every access is answered on a DMG console: a read, a store, a push, a pop. -/
theorem answered_dmg {s : State} (h : s.params.mode = .dmg) : (∀ a, s.Readable a) ∧
    (∀ a v, s.Storable a v) ∧ (∀ w, s.Pushable w) ∧ s.Poppable :=
  have r : ∀ a, s.Readable a := fun a => NoneRefused.readable (.inl h) a
  have w : ∀ a v, s.Storable a v := fun a _ => ⟨r a, .inl (.inl h)⟩
  ⟨r, w, fun _ => ⟨w _ _, w _ _⟩, r _, r _⟩

/-- A live machine on which every access of the statements is answered: LoadFromMemory, StoreToMemory,
StoreStackPointer, PushPair, PopPair, AddAndSubtract, IncDecMemory, RotateOperand, TestBit, ResetAndSetBit,
CallsPushReturn, ReturnsPopPc, PrefixByte. -/
theorem witness_Answered : Live (console .dmg) ∧ (∀ a, (console .dmg).Readable a) ∧
    (∀ a v, (console .dmg).Storable a v) ∧ (∀ w, (console .dmg).Pushable w) ∧ (console .dmg).Poppable ∧
    (∀ key, OperandReady (console .dmg) key .memHl) ∧ (∀ key r, ResultReady (console .dmg) key .memHl r) ∧
    ∀ n, (console .dmg).CanPass n :=
  have h := answered_dmg (s := console .dmg) rfl
  ⟨live_console, h.1, h.2.1, h.2.2.1, h.2.2.2,
    fun _ => ⟨live_console.canPass _, fun _ => ⟨live_console, h.1 _⟩⟩,
    fun _ _ => ⟨live_console.canPass _, fun _ => ⟨live_console, h.2.1 _ _⟩⟩, live_console.canPass⟩

/-- No internal cycle passes on a machine that is not live; a register operand needs no more. -/
theorem witness_NoInternalCycle :
    let s := { console .dmg with status := .refused (.refusedStop 0x0100) }
    s.CanPass (gap s (.main 0x80) 0) ∧ OperandReady s (.main 0x80) (.reg .b) ∧
      ResultReady s (.cb 0x00) (.reg .b) 0x00 ∧ s.CanPass (gapNotTaken s (.main 0xC2)) := by
  refine ⟨fun h => absurd rfl h, ⟨fun h => absurd rfl h, fun h => ?_⟩, ⟨fun h => absurd rfl h, fun h => ?_⟩,
    fun h => absurd rfl h⟩ <;> exact nomatch h

/-- The default table, on which an instruction completes, and one whose first line is listed. -/
theorem witness_InstructionCycles : (console .dmg).params.cycleTable = [] ∧ Instr.nop.wf = true ∧
    (exec .nop (console .dmg) = .next (console .dmg) ∧ (console .dmg).status = .running) ∧
    ¬conditionFails (console .dmg) (encode .nop) ∧
    conditionFails (console .dmg) (encode (.jpNzA16 0x0150)) ∧
    (∃ rest, (paced [] 0x00).params.cycleTable = (.main 0x06, { fetch := [1], taken := [2] }) :: rest) ∧
    (0x03, [1], 0) ∈ internalRows ∧ ∀ row ∈ internalRows, row.1 ≠ 0x00 := by
  refine ⟨rfl, by decide, ⟨rfl, rfl⟩, ?_, ⟨.nz, rfl, ?_⟩, ⟨_, rfl⟩, by decide, by decide⟩
  · rintro ⟨cc, h, _⟩
    rw [show conditionOf ((encode .nop).headD 0) = none from rfl] at h
    exact nomatch h
  · simp only [condHolds, zFlag]
    decide

/-- The accesses of the statements, with nothing refused and with refusals on: a read, a store, a push and a
pop in RAM and high RAM, and a store that starts an OAM DMA of work RAM. -/
theorem witness_Accesses : (console .dmg).Readable 0xFF4F ∧ (console .dmg).Storable 0xFF55 0x00 ∧
    (console .cgb).Readable 0xC000 ∧ (console .cgb).Storable 0xC000 0x5A ∧
    (console .cgb).Storable 0xFF46 0xC0 ∧ (console .cgb).Pushable 0x0150 ∧ (console .cgb).Poppable ∧
    { (console .cgb).hdma with active := true, src := 0x4000, remaining := 2048 }.BelowIo := by
  have ram : (console .cgb).locate 0xC000 = .wram 0 := by decide
  have hram : ∀ n, n < 0x7F → (console .cgb).locate (BitVec.ofNat 16 (0xFF80 + n)) = .hram n := by decide
  have dma : (console .cgb).locate 0xFF46 = .io .dma := (State.locate_io _ (n := 0x46) (by decide)).trans rfl
  refine ⟨NoneRefused.readable (.inl rfl) _, ⟨NoneRefused.readable (.inl rfl) _, .inl (.inl rfl)⟩, ?_,
    ⟨?_, .inr ⟨?_, ?_⟩⟩, ⟨?_, .inr ⟨fun _ => by decide, ?_⟩⟩, ⟨⟨?_, .inr ⟨?_, ?_⟩⟩, ⟨?_, .inr ⟨?_, ?_⟩⟩⟩,
    ⟨?_, ?_⟩, by unfold Hdma.BelowIo; decide⟩
  all_goals try unfold State.Readable
  all_goals first
    | (rw [ram]; simp)
    | (rw [dma]; simp)
    | (rw [show (console .cgb).cpu.sp - 1 = BitVec.ofNat 16 (0xFF80 + 0x7D) from rfl,
        hram 0x7D (by decide)]; simp)
    | (rw [show (console .cgb).cpu.sp - 2 = BitVec.ofNat 16 (0xFF80 + 0x7C) from rfl,
        hram 0x7C (by decide)]; simp)
    | (rw [show (console .cgb).cpu.sp + 1 = 0xFFFF from rfl,
        show (console .cgb).locate 0xFFFF = .ie from by decide]; simp)
    | (rw [show (console .cgb).cpu.sp = BitVec.ofNat 16 (0xFF80 + 0x7E) from rfl,
        hram 0x7E (by decide)]; simp)

theorem witness_DecodeEncode : (Instr.ldBcD16 0x1234).wf = true := by decide

theorem witness_EncodeDecode : decode [0x10, 0x5A, 0x00] = .ok (.stop, [0x00]) ∧
    decode [0xCB] = .ok (.prefixCb, []) ∧ decode [0x3E, 0x5A, 0x00] = .ok (.ldAD8 0x5A, [0x00]) :=
  ⟨rfl, rfl, rfl⟩

theorem witness_StepRunsDecoded : Live (running .dmg [0xC3, 0x50, 0x01]) ∧
    (running .dmg [0xC3, 0x50, 0x01]).cpu.halted = false ∧ (Instr.jpA16 0x0150).wf = true ∧
    (running .dmg [0xC3, 0x50, 0x01]).HoldsBytes 0x0100 (encode (.jpA16 0x0150)) :=
  ⟨live_running _, rfl, by decide, by decide, still_of_cart (by decide), by decide,
    still_of_cart (by decide), by decide, still_of_cart (by decide), True.intro⟩

/-- STOP, whose fetched byte is the opcode alone. -/
theorem witness_StepRunsDecoded_stop : (running .dmg [0x10]).HoldsBytes 0x0100 [0x10] ∧
    Instr.stop.wf = true := ⟨⟨by decide, still_of_cart (by decide), True.intro⟩, by decide⟩

theorem witness_StoppedMachineTakesNoStep :
    { console .dmg with status := .faulted (.illegalOpcode 0xD3 0x0100) }.status =
      .faulted (.illegalOpcode 0xD3 0x0100) ∧
    { console .dmg with status := .refused (.refusedStop 0x0100) }.status =
      .refused (.refusedStop 0x0100) := ⟨rfl, rfl⟩

/-- A halted machine, with a request and with none. -/
theorem witness_HaltedStep :
    (∀ req, Live { console .dmg with
      cpu := { (console .dmg).cpu with halted := true }, irq := { ie := 0, req := req } }) ∧
    (1 : BitVec 5) ≠ 0 :=
  ⟨fun _ => ⟨rfl, .inl (.inl rfl), (coherent_console .dmg _ rfl).of_eq rfl rfl rfl rfl rfl⟩, by decide⟩

theorem witness_EndOfStep :
    { (console .dmg).cpu with ime := true }.ime = true ∧
    { (console .dmg).cpu with imePending := true }.imePending = true ∧ (console .dmg).cpu.ime = false ∧
    (console .dmg).cpu.imePending = false := by decide

/-- Nothing pending; and the timer pending with the VBlank disabled. -/
theorem witness_Dispatch : Live { console .dmg with irq := { ie := 0x1C, req := 0b00101 } } ∧
    (∀ k < 5, ((console .dmg).irq.ie.getLsbD k && (console .dmg).irq.req.getLsbD k) = false) ∧
    ((0x1C : Byte).getLsbD 2 && (0b00101 : BitVec 5).getLsbD 2) = true ∧
    (∀ j < 2, ((0x1C : Byte).getLsbD j && (0b00101 : BitVec 5).getLsbD j) = false) ∧
    { console .dmg with irq := { ie := 0x1C, req := 0b00101 } }.Pushable 0x0100 :=
  ⟨⟨rfl, .inl (.inl rfl), (coherent_console .dmg _ rfl).of_eq rfl rfl rfl rfl rfl⟩, by decide, by decide, by decide,
    (answered_dmg rfl).2.2.1 _⟩

theorem witness_EnableLatency : Live (running .dmg [0xFB]) ∧ Live (running .dmg [0xF3]) ∧
    (running .dmg [0xFB]).cpu.halted = false ∧ (running .dmg [0xFB]).cpu.ime = false ∧
    (running .dmg [0xFB]).HoldsBytes 0x0100 [0xFB] ∧ (running .dmg [0xF3]).HoldsBytes 0x0100 [0xF3] :=
  ⟨live_running _, live_running _, rfl, rfl, ⟨by decide, still_of_cart (by decide), True.intro⟩,
    ⟨by decide, still_of_cart (by decide), True.intro⟩⟩

/-- A sound running machine that takes a step. -/
theorem witness_StepKeepsInv : Inv (running .dmg [0x00]) ∧ ∃ t, step (running .dmg [0x00]) = .next t := by
  have hc : Coherent (running .dmg [0x00]) := (live_running [0x00]).coherent
  refine ⟨fun _ => ⟨⟨⟨rfl, rfl, rfl, rfl, rfl⟩, rfl, hc, fun h => absurd h (by decide), ?_, by decide,
    by decide, by decide, by decide, by decide, by decide, by decide, by decide, fun h => absurd h (by decide),
    fun _ => by decide⟩, rfl⟩, ?_⟩
  · exact (by decide : 0 < 80)
  · have h : (next (running .dmg [0x00])).isSome = true := by decide
    unfold next at h
    split at h
    · exact ⟨_, ‹_›⟩
    · exact absurd h (by decide)
    · exact absurd h (by decide)

theorem witness_PowerOn : Params.default.mode = .dmg ∧
    { Params.default with mode := .cgb }.mode = .cgb := ⟨rfl, rfl⟩

/-- The ends of each range of the bus. -/
theorem witness_BusRanges :
    ((0x7FFF : Word).toNat < 0x8000 ∧ 0xA000 ≤ (0xA000 : Word).toNat ∧ (0xBFFF : Word).toNat < 0xC000) ∧
    (0x8000 ≤ (0x8000 : Word).toNat ∧ (0x9FFF : Word).toNat < 0xA000) ∧
    (0xC000 ≤ (0xC000 : Word).toNat ∧ (0xCFFF : Word).toNat < 0xD000) ∧
    (0xD000 ≤ (0xD000 : Word).toNat ∧ (0xDFFF : Word).toNat < 0xE000) ∧
    (0xFE00 ≤ (0xFE00 : Word).toNat ∧ (0xFE9F : Word).toNat < 0xFEA0) ∧
    (0xFF80 ≤ (0xFF80 : Word).toNat ∧ (0xFFFE : Word).toNat < 0xFFFF) := by decide

/-- Both ends of the echo and the unmapped range and of the ranges of unhandled registers, and the CGB
registers in DMG mode. -/
theorem witness_UnownedAddresses : (0xE000 ≤ (0xE000 : Word).toNat ∧ (0xFDFF : Word).toNat ≤ 0xFDFF ∧
    0xFEA0 ≤ (0xFEA0 : Word).toNat ∧ (0xFEFF : Word).toNat ≤ 0xFEFF) ∧ (console .dmg).params.mode = .dmg ∧
    (∀ n ∈ [0x03, 0x08, 0x0E, 0x4C, 0x4E, 0x50, 0x56, 0x67, 0x6C, 0x6F, 0x71, 0x7F, 0x4D, 0x55, 0x68, 0x70],
      n = 0x03 ∨ (0x08 ≤ n ∧ n ≤ 0x0E) ∨ n = 0x4C ∨ n = 0x4E ∨ n = 0x50 ∨ (0x56 ≤ n ∧ n ≤ 0x67) ∨
      (0x6C ≤ n ∧ n ≤ 0x6F) ∨ (0x71 ≤ n ∧ n ≤ 0x7F) ∨
      (n = 0x4D ∨ n = 0x4F ∨ (0x51 ≤ n ∧ n ≤ 0x55) ∨ (0x68 ≤ n ∧ n ≤ 0x6B) ∨ n = 0x70)) := by decide

theorem witness_ColourVideoIo : (console .cgb).params.mode = .cgb ∧
    (console .cgb).params.cgbVideoIo = .refuse ∧ benignConsole.params.mode = .cgb ∧
    benignConsole.params.cgbVideoIo = .benign ∧
    ∀ n ∈ [0x4D, 0x4F, 0x68, 0x6B], n = 0x4D ∨ n = 0x4F ∨ (0x68 ≤ n ∧ n ≤ 0x6B) := by decide

/-- A CGB console with every address register at 0xFF4F. -/
def refusing : State :=
  { console .cgb with cpu := { (console .cgb).cpu with
      b := 0xFF, c := 0x4F, d := 0xFF, e := 0x4F, h := 0xFF, l := 0x4F } }

theorem witness_RefusedAccessEndsInstruction : Live refusing ∧ refusing.locate 0xFF4F = .io .cgbVideo ∧
    hlAddress refusing = 0xFF4F ∧ bcAddress refusing = 0xFF4F ∧ deAddress refusing = 0xFF4F ∧
    cAddress refusing = 0xFF4F ∧ 0xFF#8 ++ 0x4F#8 = 0xFF4F#16 ∧
    (0x7E, Instr.ldAMemHl, Reg8.a, hlAddress) ∈ loadMemRows ∧
    (0x70, Instr.ldMemHlB, hlAddress, Reg8.b) ∈ storeRows ∧
    (0x86, Instr.addAMemHl, AluOp.add, Operand8.memHl) ∈ aluRows ∧
    (0x06, Instr.cbRlcMemHl, RotOp.rlc, Operand8.memHl) ∈ rotateRows ∧
    (0x46, Instr.cbBit0MemHl, 0, Operand8.memHl) ∈ bitRows ++ resRows ++ setRows ∧
    { refusing with cpu := { refusing.cpu with sp := 0xFF4F } }.cpu.sp = 0xFF4F :=
  ⟨live_cgb.withCpu _, (refusing.locate_io (n := 0x4F) (by decide)).trans rfl, by decide, by decide, by decide, by decide,
    by decide, by simp [loadMemRows], by simp [storeRows], by decide, by decide, by decide, rfl⟩

/-- An edge of the watched bit, and no edge. -/
theorem witness_TimerTick : [9, 3, 5, 7].getD ((0b101 : BitVec 3).toNat % 4) 9 = 3 ∧
    ((0b101 : BitVec 3).getLsbD 2 && (0x000F : Word).getLsbD 3 && !((0x000F : Word) + 1).getLsbD 3) = true ∧
    ((0b101 : BitVec 3).getLsbD 2 && (0x000E : Word).getLsbD 3 && !((0x000E : Word) + 1).getLsbD 3) = false := by
  decide

theorem witness_TimerRate : (0b101 : BitVec 3).getLsbD 2 = true ∧
    [1024, 16, 64, 256].getD ((0b101 : BitVec 3).toNat % 4) 1024 = 16 ∧
    (0xF0 : Byte).toNat + ((0xABCC : Word).toNat % 16 + 200) / 16 ≤ 255 := by decide

/-- A transfer from work RAM, whose bytes no device moves. -/
theorem witness_OamDmaCopies : Live (console .dmg) ∧ ∀ i < 160,
    (startOamDma 0xC0 (console .dmg)).StillByte (BitVec.ofNat 16 ((0xC0 : Byte).toNat * 256 + i)) := by
  refine ⟨live_console, fun i hi => still_of_wram (State.locate_wram _ ?_)⟩
  have h : (0xC0 : Byte).toNat = 0xC0 := rfl
  rw [h, BitVec.toNat_ofNat]
  omega

/-- An abort, a general copy and an HBlank start, at the ends of the byte's two halves. -/
theorem witness_HdmaStart : (console .cgb).params.mode = .cgb ∧ (console .cgb).hdma.active = false ∧
    { (console .cgb).hdma with active := true }.active = true ∧ (0x7F : Byte).toNat < 128 ∧
    128 ≤ (0x80 : Byte).toNat := by decide

/-- A machine about to copy 16 bytes from 0xC000. -/
def copying : State :=
  { benignConsole with hdma := { benignConsole.hdma with src := 0xC000, remaining := 16 } }

theorem witness_HdmaCopies : Live copying ∧ 16 ≤ copying.hdma.remaining ∧
    ∀ k < 16, (∀ j, copying.locate (copying.hdma.src + BitVec.ofNat 16 k) ≠ .vram j) ∧
      (∀ r, copying.locate (copying.hdma.src + BitVec.ofNat 16 k) ≠ .io r) := by
  have h : ∀ k < 16, copying.locate (copying.hdma.src + BitVec.ofNat 16 k) = .wram k := by decide
  refine ⟨⟨rfl, .inl (.inr rfl), live_benign.coherent.of_eq rfl rfl rfl rfl rfl⟩, by decide, fun k hk => ?_⟩
  rw [h k hk]
  exact ⟨fun _ => by simp, fun _ => by simp⟩

/-- The ends of the sound registers and of HDMA1-4, and a CGB console. -/
theorem witness_DeviceAndColourRegisters : (console .cgb).params.mode = .cgb ∧
    (∀ n ∈ [0x51, 0x54], 0x51 ≤ n ∧ n ≤ 0x54) ∧
    0xFF10 ≤ (0xFF10 : Word).toNat ∧ (0xFF3F : Word).toNat ≤ 0xFF3F := by decide

/-- A machine with an HBlank HDMA of 64 bytes under way. -/
def blockPending : State :=
  { benignConsole with hdma := { benignConsole.hdma with
      active := true, hblank := true, src := 0xC000, remaining := 64 } }

/-- Every mode may be entered from the power-on state; mode 0 also with an HBlank HDMA active. -/
theorem witness_ModeEntry : Live (console .dmg) ∧ (console .dmg).lcd.ly.toNat < 144 ∧ Live blockPending ∧
    blockPending.lcd.ly.toNat < 144 ∧ blockPending.params.mode = .cgb ∧ blockPending.hdma.active = true ∧
    blockPending.hdma.hblank = true :=
  ⟨live_console, by decide, ⟨rfl, .inl (.inr rfl), live_benign.coherent.of_eq rfl rfl rfl rfl rfl⟩, by decide,
    rfl, rfl, rfl⟩

/-- The PPU at the start of line 0, the position of power-on: for LineTiming, TransferLength, FrameTiming. -/
theorem witness_LineTiming : Live (console .dmg) ∧ PpuRuns (console .dmg) ∧
    (console .dmg).ppu.lineTicks = 0 ∧ (console .dmg).lcd.mode = .oamScan ∧ (console .dmg).lcd.ly = 0 ∧
    PpuRuns { console .dmg with params := { Params.default with lcdOffStopsPpu := true } } :=
  ⟨live_console, .inl rfl, rfl, rfl, rfl, .inr (by decide)⟩

/-- The start of the last visible line, after which VBlank begins. -/
def lastVisible : State := { console .dmg with lcd := { (console .dmg).lcd with ly := 143 } }

theorem witness_LineTiming_last : Live lastVisible ∧ PpuRuns lastVisible ∧ lastVisible.ppu.lineTicks = 0 ∧
    lastVisible.lcd.mode = .oamScan ∧ lastVisible.lcd.ly = 143 :=
  ⟨⟨rfl, .inl (.inl rfl), ⟨fun h => absurd h (by decide), by decide, fun _ => by decide,
    fun h => absurd h (by decide)⟩⟩, .inl rfl, rfl, rfl, rfl⟩

/-- The start of the last VBlank line. -/
def lastLine : State :=
  { console .dmg with lcd := { (console .dmg).lcd with mode := .vblank, ly := 153 } }

theorem witness_LineTiming_vblank : Live lastLine ∧ PpuRuns lastLine ∧ lastLine.ppu.lineTicks = 0 ∧
    lastLine.lcd.mode = .vblank ∧ lastLine.lcd.ly = 153 :=
  ⟨⟨rfl, .inl (.inl rfl), ⟨fun h => absurd h (by decide), by decide, fun h => absurd rfl h,
    fun h => absurd h (by decide)⟩⟩, .inl rfl, rfl, rfl, rfl⟩

/-- OAM with eleven entries on line 0: the eleventh is left out; the list is by X in DMG mode. -/
def crowded : State :=
  { console .dmg with mem := { Mem.empty with
      oam := (List.range 11).flatMap fun i => [(4 * i, 16), (4 * i + 1, BitVec.ofNat 8 (20 - i))] } }

theorem witness_SpriteSelection :
    (∀ i < 11, (oamEntry crowded i).y.toNat ≤ crowded.lcd.ly.toNat + 16 ∧
      crowded.lcd.ly.toNat + 16 < (oamEntry crowded i).y.toNat + 8) ∧
    (selectSprites crowded).map (fun sp => sp.index) = [9, 8, 7, 6, 5, 4, 3, 2, 1, 0] ∧
    oamEntry crowded 10 ∉ selectSprites crowded := by decide

/-- A background column without a sprite, and an opaque sprite at its fifth column behind a sprite that is
transparent there and one that is not over it. -/
theorem witness_PixelResolution : (console .dmg).pipe.fetched = [] ∧
    (let s := layered; let layers := s.pipe.fetched.zip (s.pipe.spriteLo.zip s.pipe.spriteHi)
      layers = layers.take 2 ++ layers[2] :: [] ∧ (∀ y ∈ layers.take 2, spriteColour s 4 y = 0) ∧
      spriteColour s 4 layers[2] ≠ 0) ∧
    (∀ x ∈ layered.pipe.fetched.zip (layered.pipe.spriteLo.zip layered.pipe.spriteHi),
      spriteColour layered 3 x = 0) := by decide

/-- A FIFO of nine pixels at the corners of the framebuffer, with pixels still to discard, and one of eight. -/
theorem witness_PopDrawsPixel : (drawing .dmg 0 0 0).pipe.fifo = 0xFF555555 :: List.replicate 8 0xFFFFFFFF ∧
    8 < (drawing .dmg 0 0 0).pipe.fifo.length ∧
    (drawing .dmg 3 0 0).pipe.lineX < (drawing .dmg 3 0 0).pipe.scxFine.toNat ∧
    (drawing .cgb 0 143 159).pipe.scxFine.toNat ≤ (drawing .cgb 0 143 159).pipe.lineX ∧
    (drawing .cgb 0 143 159).lcd.ly.toNat < 144 ∧ (drawing .cgb 0 143 159).pipe.pushedX < 160 ∧
    (console .dmg).pipe.fifo.length ≤ 8 := by decide

/-- A row of every table of the claims, and a live machine whose flags meet and fail each condition. -/
theorem witness_Rows : (0x40, Instr.ldBB, Reg8.b, Reg8.b) ∈ loadRegRows ∧
    (0x06, Instr.ldBD8, Reg8.b) ∈ loadImmRows ∧ (0x01, Instr.ldBcD16, Reg16.bc) ∈ loadWordRows ∧
    (0xF5, Instr.pushAf, StackReg.af) ∈ pushRows ∧ (0xF1, Instr.popAf, StackReg.af) ∈ popRows ∧
    (0x98, Instr.sbcAB, AluOp.sbc, Operand8.reg .b) ∈ aluRows ∧
    (0xA0, Instr.andAB, AluOp.and, Operand8.reg .b) ∈ aluRows ∧
    (0xC6, Instr.addAD8, AluOp.add) ∈ aluImmRows ∧ (0xE6, Instr.andAD8, AluOp.and) ∈ aluImmRows ∧
    (0x04, Instr.incB, Reg8.b) ∈ incRows ∧ (0x05, Instr.decB, Reg8.b) ∈ decRows ∧
    (0x03, Instr.incBc, Reg16.bc) ∈ incWordRows ∧ (0x0B, Instr.decBc, Reg16.bc) ∈ decWordRows ∧
    (0x09, Instr.addHlBc, Reg16.bc) ∈ addHlRows ∧ (0x07, Instr.rlca, RotOp.rlc) ∈ rotateARows ∧
    (0x87, Instr.cbRes0A, 0, Operand8.reg .a) ∈ resRows ∧
    (0xC7, Instr.cbSet0A, 0, Operand8.reg .a) ∈ setRows ∧
    (0xC2, Instr.jpNzA16, Cond.nz) ∈ jumpIfRows ∧ (0x20, Instr.jrNzE8, Cond.nz) ∈ jumpRelIfRows ∧
    (0xC4, Instr.callNzA16, Cond.nz) ∈ callIfRows ∧ (0xC0, Instr.retNz, Cond.nz) ∈ retIfRows ∧
    (0xC7, Instr.rst00, 0x0000#16) ∈ rstRows ∧ (0xD3, Instr.illegalD3) ∈ illegalRows :=
  ⟨by decide, by simp [loadImmRows], by simp [loadWordRows], by decide, by decide, by decide, by decide,
    by simp [aluImmRows], by simp [aluImmRows], by decide, by decide, by decide, by decide, by decide,
    by decide, by decide, by decide, by simp [jumpIfRows], by simp [jumpRelIfRows], by simp [callIfRows],
    by decide, by decide, by decide⟩

theorem witness_Conditions : Live (console .dmg) ∧ condHolds (console .dmg) .z ∧
    ¬condHolds (console .dmg) .nz ∧ condHolds (console .dmg) .c ∧ ¬condHolds (console .dmg) .nc :=
  ⟨live_console, rfl, by simp only [condHolds, zFlag]; decide, rfl, by simp only [condHolds, cFlag]; decide⟩

/-- DAA after 0x99 + 0x01: both digits are corrected. -/
theorem witness_AccumulatorFlags :
    let s := { console .dmg with cpu := { (console .dmg).cpu with a := 0x9A, f := 0x00 } }
    (hFlag s || (!nFlag s && decide (s.cpu.a.toNat % 16 > 9))) = true ∧
    (cFlag s || (!nFlag s && decide (s.cpu.a.toNat > 0x99))) = true := by decide

/-- A live machine with the prefix byte's second byte at PC; STOP and an illegal opcode at PC. -/
theorem witness_PrefixByte : Live (running .dmg [0x37]) ∧ (running .dmg [0x37]).HoldsBytes 0x0100 [0x37] ∧
    decode [0xCB, 0x37] = .ok (.cbSwapA, []) ∧
    ∀ v, (running .dmg [0x37]).Storable (hlAddress (running .dmg [0x37])) v :=
  ⟨live_running _, ⟨by decide, still_of_cart (by decide), True.intro⟩, rfl, fun v => (answered_dmg rfl).2.1 _ v⟩

theorem witness_Stops : Live (running .dmg [0x10]) ∧ (running .dmg [0x10]).HoldsBytes 0x0100 [0x10] ∧
    Live (running .dmg [0xD3]) ∧ (running .dmg [0xD3]).HoldsBytes 0x0100 [0xD3] ∧
    (running .dmg [0xD3]).cpu.halted = false :=
  ⟨live_running _, ⟨by decide, still_of_cart (by decide), True.intro⟩, live_running _,
    ⟨by decide, still_of_cart (by decide), True.intro⟩, rfl⟩

end Sys2Proof.Tests
end

section
/-! The machine at power-on and after it stopped (10_state.md): what `step` answers of a stopped machine, what
`RESET_PROFILE` gives each mode, and that power-on with the default profile is live and sound. -/

namespace Sys2Proof.Machine

/-! ## Stopped machines -/

@[simp] theorem step_of_faulted {s : State} {f : Fault} (h : s.status = .faulted f) : step s = .fault f := by
  unfold step
  rw [h]

@[simp] theorem step_of_refused {s : State} {r : Refusal} (h : s.status = .refused r) :
    step s = .refused r := by
  unfold step
  rw [h]

/-! ## Reading a register of the I/O block -/

theorem State.peek_of_locate_io {s : State} {a : Word} {r : IoReg} (h : s.locate a = .io r) :
    s.peek a = ioValue s a r := by
  unfold State.peek
  rw [h]
  rfl

/-- A register both modes have reads as its value (R87). -/
theorem State.peek_ioBoth (s : State) {n : Nat} {r : IoReg} (h : (n, r) ∈ ioBoth) :
    s.peek (BitVec.ofNat 16 (0xFF00 + n)) = ioValue s (BitVec.ofNat 16 (0xFF00 + n)) r :=
  State.peek_of_locate_io (s.locate_ioBoth h)

/-- In CGB mode a register of that mode other than the colour-mode video registers reads as its value (R87). -/
theorem State.peek_ioCgb (s : State) {n : Nat} {r : IoReg} (h : (n, r) ∈ ioCgb) (hr : r ≠ .cgbVideo)
    (hm : s.params.mode = .cgb) :
    s.peek (BitVec.ofNat 16 (0xFF00 + n)) = ioValue s (BitVec.ofNat 16 (0xFF00 + n)) r :=
  State.peek_of_locate_io (s.locate_ioCgb h hr hm)

/-! ## `RESET_PROFILE` -/

theorem ResetProfile.forMode_eq_ite (r : ResetProfile) (m : Mode) :
    r.forMode m = if m = .dmg then r.dmg else r.cgb := by
  cases m <;> rfl

@[simp] theorem ResetProfile.default_status (m : Mode) : (ResetProfile.default.forMode m).status = .running := by
  cases m <;> rfl

@[simp] theorem ResetProfile.default_irq (m : Mode) :
    (ResetProfile.default.forMode m).irq = { ie := 0x00, req := 0 } := by
  cases m <;> rfl

/-- The low nibble of F is clear in both modes (R32). -/
@[simp] theorem ResetProfile.default_flagsLow (m : Mode) :
    (ResetProfile.default.forMode m).cpu.f &&& 0x0F = 0 := by
  cases m <;> rfl

@[simp] theorem ResetProfile.default_imePending (m : Mode) :
    (ResetProfile.default.forMode m).cpu.imePending = false := by
  cases m <;> rfl

/-- TAC as read at power-on: its unused bits are set (R447). -/
theorem ResetProfile.default_tacByte : 0xF8 ||| ResetProfile.default.devices.tac.setWidth 8 = (0xF8 : Byte) := by
  decide

/-- STAT as read at power-on: OAM scan, with LY = LYC (R492). -/
theorem ResetProfile.default_statByte : statByte ResetProfile.default.devices.lcd = 0x86 := by decide

/-- HDMA5 as read at power-on: no transfer is active (R477). -/
theorem ResetProfile.default_hdma5Byte : hdma5Byte ResetProfile.default.devices.hdma = 0xFF := by decide

/-- SVBK as read at power-on: its unused bits are set (R87). -/
theorem ResetProfile.default_svbkByte : 0xF8 ||| ResetProfile.default.devices.svbk.setWidth 8 = (0xF8 : Byte) := by
  decide

/-! ## Power-on with the default profile -/

section
variable (p : Params) (divReset : Word) (m : Mem) (dv : Devices)

/-- At power-on no DMA is active and the PPU is at the start of line 0. -/
theorem State.powerOn_default_coherent : Coherent (.powerOn p ResetProfile.default divReset m dv) where
  dmaCursor := nofun
  hdmaDst := (by decide : 0x8000 ≤ (0x8000 : Word).toNat ∧ (0x8000 : Word).toNat ≤ 0x9FFF)
  line := fun _ => (by decide : (0x00 : Byte).toNat < 144)
  column := nofun

theorem State.powerOn_default_live : Live (.powerOn p ResetProfile.default divReset m dv) where
  running := ResetProfile.default_status p.mode
  neverRefuses := .inr ⟨nofun, nofun⟩
  coherent := powerOn_default_coherent p divReset m dv

/-- Power-on is sound in both modes, whatever the memories hold in their canonical form. -/
theorem State.powerOn_default_sound (hm : MemorySound (.powerOn p ResetProfile.default divReset m dv)) :
    Sound (.powerOn p ResetProfile.default divReset m dv) where
  memory := hm
  flagsLow := ResetProfile.default_flagsLow p.mode
  coherent := powerOn_default_coherent p divReset m dv
  vblankLine := nofun
  lineAt := (by decide : 0 < 80)
  lineSprites := Nat.zero_le _
  fetched := Nat.zero_le _
  staging := ⟨rfl, rfl⟩
  fifo := Nat.zero_le _
  dmaDelay := Nat.zero_le _
  dmaIndex := Nat.zero_le _
  hdmaLength := Nat.zero_le _
  hdmaBlocks := rfl
  hdmaLeft := nofun
  dmgOnly := fun _ => ⟨rfl, rfl, rfl⟩

theorem State.powerOn_default_inv (hm : MemorySound (.powerOn p ResetProfile.default divReset m dv)) :
    Inv (.powerOn p ResetProfile.default divReset m dv) :=
  fun _ => ⟨powerOn_default_sound p divReset m dv hm, ResetProfile.default_imePending p.mode⟩

end

theorem State.reset_memorySound : MemorySound .reset := ⟨rfl, rfl, rfl, rfl, rfl⟩

/-- Settles O6: the status alone decides what `step` answers. -/
theorem stoppedMachineTakesNoStep : Obligations.StoppedMachineTakesNoStep :=
  fun _ => ⟨fun _ h => step_of_faulted h, fun _ h => step_of_refused h⟩

/-- Settles O12: reset is a power-on with the default profile, and its memories are empty. -/
theorem resetSound : Obligations.ResetSound :=
  ⟨State.powerOn_default_inv _ _ _ _ State.reset_memorySound, State.powerOn_default_live _ _ _ _,
    State.powerOn_default_sound _ _ _ _ State.reset_memorySound⟩

/-- Settles O14: the registers are the profile's part for the mode, which is read off in each mode. -/
theorem powerOnCpu : Obligations.PowerOnCpu := by
  refine ⟨fun p r divReset m dv => ?_, fun p divReset m dv => ⟨fun h => ?_, fun h => ?_, ?_, ?_⟩⟩
  · have hp := r.forMode_eq_ite p.mode
    exact ⟨congrArg CpuProfile.cpu hp, congrArg CpuProfile.irq hp, congrArg CpuProfile.status hp⟩
  · exact congrArg (fun mode => (ResetProfile.default.forMode mode).cpu) h
  · exact congrArg (fun mode => (ResetProfile.default.forMode mode).cpu) h
  · exact ResetProfile.default_irq p.mode
  · exact ResetProfile.default_status p.mode

/-- Settles O15: `powerOn` places the profile's devices field by field; the four reads go through the bus to
the register's own value. -/
theorem powerOnDevices : Obligations.PowerOnDevices := by
  refine ⟨fun p r divReset m dv => ?_, fun p divReset m dv => ?_, rfl⟩
  · and_intros <;> rfl
  · refine ⟨rfl, rfl, rfl, rfl, rfl, ?tac, ?stat, fun hm => ⟨?hdma5, ?svbk⟩⟩
    case tac =>
      exact (State.peek_ioBoth _ (n := 0x07) (r := .tac) (by decide)).trans
        ResetProfile.default_tacByte
    case stat =>
      exact (State.peek_ioBoth _ (n := 0x41) (r := .stat) (by decide)).trans
        ResetProfile.default_statByte
    case hdma5 =>
      exact (State.peek_ioCgb _ (n := 0x55) (r := .hdma5) (by decide) (by decide) hm).trans
        ResetProfile.default_hdma5Byte
    case svbk =>
      exact (State.peek_ioCgb _ (n := 0x70) (r := .svbk) (by decide) (by decide) hm).trans
        ResetProfile.default_svbkByte

end Sys2Proof.Machine
end

section
/-! The bus (20_memory.md): what a read and a write of each owner's addresses do, and where the I/O block has
no register or one that refuses. -/

namespace Sys2Proof.Machine

/-! ## Addresses outside the I/O block -/

/-- The state after a write of a byte to a location outside the I/O block (R80), the counterpart of
`State.byteAt`. A register of the I/O block is left alone here: its write is `ioWrite`. -/
def State.withByteAt (s : State) (a : Word) (v : Byte) : Location → State
  | .cart => { s with dev := { s.dev with cart := Device.write s.dev.cart a v } }
  | .vram i => { s with mem := { s.mem with vram := Cells.set s.mem.vram i v } }
  | .wram i => { s with mem := { s.mem with wram := Cells.set s.mem.wram i v } }
  | .zero => s
  | .oam i => { s with mem := { s.mem with oam := Cells.set s.mem.oam i v } }
  | .io _ => s
  | .hram i => { s with mem := { s.mem with hram := Cells.set s.mem.hram i v } }
  | .ie => { s with irq := { s.irq with ie := v } }

/-- A write outside the I/O block stores its byte at the address's owner (R80). -/
theorem busWrite_plain {s : State} {a : Word} (h : ∀ r, s.locate a ≠ .io r) (v : Byte) :
    busWrite a v s = .ok () (s.withByteAt a v (s.locate a)) := by
  unfold busWrite
  cases hl : s.locate a
  case io r => exact absurd hl (h r)
  all_goals rfl

/-- What a known owner outside the I/O block answers to a read and to a write (R80). -/
theorem bus_of_locate {s : State} {a : Word} {l : Location} (h : s.locate a = l) (hl : ∀ r, l ≠ .io r)
    (v : Byte) : busRead a s = .ok (s.byteAt a l) s ∧ busWrite a v s = .ok () (s.withByteAt a v l) := by
  subst h
  exact ⟨busRead_plain hl, busWrite_plain hl v⟩

/-- The bank at 0xD000 (R83): bank 1 in DMG mode and where SVBK is 0, else SVBK's. -/
theorem wramBank_eq_ite (p : Params) (svbk : BitVec 3) :
    wramBank p svbk = if p.mode = .dmg ∨ svbk = 0 then 1 else svbk.toNat := by
  unfold wramBank
  cases p.mode <;> simp

/-! ## Offsets of the I/O block without a register, and with one that refuses -/

theorem lookupCell_of_not_mem {l : List (Nat × IoReg)} {n : Nat} (h : n ∉ l.map Prod.fst) :
    lookupCell l n = none := by
  induction l with
  | nil => rfl
  | cons c rest ih =>
    obtain ⟨hc, hrest⟩ := not_or.1 (mt List.mem_cons.2 h)
    simp only [lookupCell]
    rw [if_neg (Ne.symm hc), ih hrest]

/-- No register of both modes and none of CGB mode, or the machine is in DMG mode (R87, R88). -/
theorem ioReg_unhandled {p : Params} {n : Nat} (hs : ¬(0x10 ≤ n ∧ n ≤ 0x3F)) (hb : n ∉ ioBoth.map Prod.fst)
    (hc : p.mode = .dmg ∨ n ∉ ioCgb.map Prod.fst) : ioReg p n = .unhandled := by
  unfold ioReg
  rw [if_neg hs, lookupCell_of_not_mem hb]
  rcases hc with hm | hn
  · rw [hm]
  · rw [lookupCell_of_not_mem hn]
    cases p.mode <;> rfl

/-- In CGB mode `CGB_VIDEO_IO` says what a colour-mode video register is (R87). -/
theorem ioReg_cgbVideo {p : Params} {n : Nat} (h : (n, .cgbVideo) ∈ ioCgb) (hm : p.mode = .cgb) :
    ioReg p n = if p.cgbVideoIo = .refuse then .cgbVideo else .unhandled := by
  obtain ⟨hs, hb⟩ : ¬(0x10 ≤ n ∧ n ≤ 0x3F) ∧ n ∉ ioBoth.map Prod.fst :=
    (by decide : ∀ c ∈ ioCgb, ¬(0x10 ≤ c.1 ∧ c.1 ≤ 0x3F) ∧ c.1 ∉ ioBoth.map Prod.fst) _ h
  unfold ioReg
  rw [if_neg hs, lookupCell_of_not_mem hb, hm, lookupCell_of_mem (by decide) h]
  cases p.cgbVideoIo <;> rfl

/-- An access to an unhandled register records a warning and changes nothing else; a read gives 0 (R88). -/
theorem bus_unhandled {s : State} {a : Word} (h : s.locate a = .io .unhandled) (v : Byte) :
    busRead a s = .ok 0x00 (warn a s) ∧ busWrite a v s = .ok () (warn a s) := by
  refine ⟨?_, busWrite_io h v⟩
  unfold busRead State.peek
  rw [h]
  rfl

/-- An access to a register that refuses is refused and changes nothing else (R87, R412). -/
theorem bus_cgbVideo {s : State} {a : Word} (h : s.locate a = .io .cgbVideo) (v : Byte) :
    busRead a s = refuse (.refusedCgbVideo a) s ∧ busWrite a v s = refuse (.refusedCgbVideo a) s := by
  refine ⟨?_, busWrite_io h v⟩
  unfold busRead
  rw [h]

/-! ## The obligations -/

/-- Settles O16: the range of an address gives its owner, and the owner gives both accesses. -/
theorem busRanges : Obligations.BusRanges := by
  refine fun s a v => ⟨?cart, fun h => ?vram, fun h => ?wram, fun bank hbank h => ?banked, fun h => ?oam,
    fun h => ?hram, fun h => ?ie⟩
  case cart =>
    rintro (h | h)
    · exact bus_of_locate (s.locate_cart_low h) nofun v
    · exact bus_of_locate (s.locate_cart_high h) nofun v
  case vram => exact bus_of_locate (s.locate_vram h) nofun v
  case wram => exact bus_of_locate (s.locate_wram h) nofun v
  case banked =>
    rw [hbank, ← wramBank_eq_ite]
    exact bus_of_locate (s.locate_wramBank h) nofun v
  case oam => exact bus_of_locate (s.locate_oam h) nofun v
  case hram => exact bus_of_locate (s.locate_hram h) nofun v
  case ie =>
    subst h
    exact bus_of_locate s.locate_ie nofun v

/-- Settles O17: both ranges have the owner `zero`, and each listed offset is in neither table of registers, or
only in that of CGB mode. -/
theorem unownedAddresses : Obligations.UnownedAddresses := by
  refine ⟨fun s a v h => ?range, fun s n v h => ?register⟩
  case range =>
    rcases h with h | h
    · exact bus_of_locate (s.locate_echo (by omega)) nofun v
    · exact bus_of_locate (s.locate_unmapped (by omega)) nofun v
  case register =>
    have hreg : ioReg s.params n = .unhandled := by
      refine ioReg_unhandled (by omega) ?both (or_iff_not_imp_left.2 fun hm => ?cgb)
      case both =>
        simp only [ioBoth, List.map_cons, List.map_nil, List.mem_cons, List.not_mem_nil, or_false]
        omega
      case cgb =>
        simp only [hm, false_and, or_false] at h
        simp only [ioCgb, List.map_cons, List.map_nil, List.mem_cons, List.not_mem_nil, or_false]
        omega
    exact bus_unhandled ((s.locate_io (by omega)).trans (congrArg Location.io hreg)) v

/-- Settles O18: the offset is a colour-mode video register, and `CGB_VIDEO_IO` decides what it answers. -/
theorem colourVideoIo : Obligations.ColourVideoIo := by
  intro s n v hm hn
  have hmem : (n, .cgbVideo) ∈ ioCgb := by
    have hcases : n = 0x4D ∨ n = 0x4F ∨ n = 0x68 ∨ n = 0x69 ∨ n = 0x6A ∨ n = 0x6B := by omega
    rcases hcases with rfl | rfl | rfl | rfl | rfl | rfl <;> decide
  have hloc := (s.locate_io (by omega)).trans (congrArg Location.io (ioReg_cgbVideo hmem hm))
  refine ⟨fun hp => ?refuse, fun hp => ?benign⟩
  case refuse => exact bus_cgbVideo (hloc.trans (by rw [hp]; rfl)) v
  case benign => exact bus_unhandled (hloc.trans (by rw [hp]; rfl)) v

end Sys2Proof.Machine
end

section
/-! The encoding (30_encoding.md): what each cell of the two opcode maps encodes to, which byte strings the
decoder accepts, and that decoding and encoding are inverse to each other. -/

namespace Sys2Proof

/-! ## Immediates -/

@[simp] theorem immWord_loByte_hiByte (w : Word) : immWord (loByte w) (hiByte w) = w := by
  unfold immWord loByte hiByte
  rw [BitVec.extractLsb'_append_extractLsb'_eq_extractLsb' (by decide)]
  exact BitVec.extractLsb'_eq_self

@[simp] theorem loByte_immWord (lo hi : Byte) : loByte (immWord lo hi) = lo :=
  BitVec.extractLsb'_append_eq_right

@[simp] theorem hiByte_immWord (lo hi : Byte) : hiByte (immWord lo hi) = hi :=
  BitVec.extractLsb'_append_eq_left

/-! ## The opcode maps against the encoder -/

/-- The bytes after an opcode that is followed by `k` fetched bytes: the immediate byte `n` or the immediate
word `w`, low byte first (R148). -/
def operandBytes (k : Nat) (n : Byte) (w : Word) : List Byte :=
  match k with
  | 0 => []
  | 1 => [n]
  | _ => [loByte w, hiByte w]

/-- The encoding of the instruction at `op` in the unprefixed map: the opcode and its fetched operand, but STOP
has a second byte that is not fetched (R156), and after 0xCB comes no operand (R346). -/
def cellBytes (op n : Byte) (w : Word) : List Byte :=
  if op = 0x10 then [0x10, 0x00]
  else if op = 0xCB then [0xCB]
  else op :: operandBytes (fetchedAfterOpcode op) n w

/-- The opcodes of row `r` of an opcode map. -/
def rowOpcodes (r : Nat) : List Byte := (List.range 16).map fun k => BitVec.ofNat 8 (16 * r + k)

/-- Two functions of an opcode agree when they agree along each of the sixteen rows of a map. -/
theorem eq_of_rows {α : Type} {f g : Byte → α} (h : ∀ r < 16, (rowOpcodes r).map f = (rowOpcodes r).map g)
    (op : Byte) : f op = g op := by
  have hrow := List.map_inj_left.1 (h (op.toNat / 16) (by omega))
  refine hrow op (List.mem_map.2 ⟨op.toNat % 16, List.mem_range.2 (by omega), ?_⟩)
  rw [Nat.div_add_mod, BitVec.ofNat_toNat, BitVec.setWidth_eq]

theorem cellBytes_of_ne {op : Byte} (hcb : op ≠ 0xCB) (hstop : op ≠ 0x10) (n : Byte) (w : Word) :
    cellBytes op n w = op :: operandBytes (fetchedAfterOpcode op) n w := by
  rw [cellBytes, if_neg hstop, if_neg hcb]

theorem map_encode_opcodeMap (op n : Byte) (w : Word) :
    (opcodeMap op n w).map encode = some (cellBytes op n w) := by
  refine eq_of_rows (f := fun op => (opcodeMap op n w).map encode)
    (g := fun op => some (cellBytes op n w)) (fun r hr => ?_) op
  interval_cases r <;> rfl

theorem map_encode_cbMap (op2 : Byte) : (cbMap op2).map encode = some [0xCB, op2] := by
  refine eq_of_rows (f := fun op2 => (cbMap op2).map encode)
    (g := fun op2 => some [0xCB, op2]) (fun r hr => ?_) op2
  interval_cases r <;> rfl

/-- Every unprefixed opcode has an instruction (R192). -/
theorem exists_opcodeMap (op n : Byte) (w : Word) : ∃ i, opcodeMap op n w = some i :=
  (Option.map_eq_some_iff.1 (map_encode_opcodeMap op n w)).imp fun _ h => h.1

/-- Every byte after 0xCB has an instruction (R192). -/
theorem exists_cbMap (op2 : Byte) : ∃ i, cbMap op2 = some i :=
  (Option.map_eq_some_iff.1 (map_encode_cbMap op2)).imp fun _ h => h.1

theorem encode_of_opcodeMap {op n : Byte} {w : Word} {i : Instr} (h : opcodeMap op n w = some i) :
    encode i = cellBytes op n w := by
  simpa [h] using map_encode_opcodeMap op n w

theorem encode_of_cbMap {op2 : Byte} {i : Instr} (h : cbMap op2 = some i) : encode i = [0xCB, op2] := by
  simpa [h] using map_encode_cbMap op2

/-- An instruction whose encoding is neither STOP's nor the lone 0xCB is well-formed and not STOP. -/
theorem ne_stop_and_wf_of_encode {i : Instr} (hstop : encode i ≠ [0x10, 0x00]) (hcb : encode i ≠ [0xCB]) :
    i ≠ .stop ∧ i.wf = true :=
  ⟨fun h => hstop (h ▸ rfl), bne_iff_ne.2 fun h => hcb (h ▸ rfl)⟩

/-! ## The decoder, branch by branch -/

theorem fetchedAfterOpcode_cases (op : Byte) :
    fetchedAfterOpcode op = 0 ∨ fetchedAfterOpcode op = 1 ∨ fetchedAfterOpcode op = 2 := by
  unfold fetchedAfterOpcode instrLength
  split_ifs <;> decide

@[simp] theorem handlerOr_eq_ok {op : Byte} {rest rest' : List Byte} {o : Option Instr} {i : Instr} :
    handlerOr op rest o = .ok (i, rest') ↔ o = some i ∧ rest = rest' := by
  cases o <;> simp [handlerOr]

@[simp] theorem decode_cb (op2 : Byte) (rest : List Byte) :
    decode (0xCB :: op2 :: rest) = handlerOr op2 rest (cbMap op2) := rfl

@[simp] theorem decode_stop (rest : List Byte) : decode (0x10 :: rest) = .ok (.stop, rest.drop 1) := rfl

section
variable {op : Byte} (hcb : op ≠ 0xCB)
include hcb

theorem decode_of_fetched_zero (hk : fetchedAfterOpcode op = 0) (hstop : op ≠ 0x10) (rest : List Byte) :
    decode (op :: rest) = handlerOr op rest (opcodeMap op 0 0) := by
  simp only [decode, if_neg hcb, if_neg hstop, hk]

theorem decode_of_fetched_one (hk : fetchedAfterOpcode op = 1) (n : Byte) (rest : List Byte) :
    decode (op :: n :: rest) = handlerOr op rest (opcodeMap op n 0) := by
  simp only [decode, if_neg hcb, hk]

theorem decode_of_fetched_two (hk : fetchedAfterOpcode op = 2) (lo hi : Byte) (rest : List Byte) :
    decode (op :: lo :: hi :: rest) = handlerOr op rest (opcodeMap op 0 (immWord lo hi)) := by
  simp only [decode, if_neg hcb, hk]

end

/-- A three-byte instruction's immediate word is read back whole (R148). -/
theorem decode_loByte_hiByte {op : Byte} {f : Word → Instr} (hcb : op ≠ 0xCB)
    (hk : fetchedAfterOpcode op = 2) (hmap : ∀ w, opcodeMap op 0 w = some (f w)) (w : Word)
    (rest : List Byte) : decode (op :: loByte w :: hiByte w :: rest) = .ok (f w, rest) := by
  rw [decode_of_fetched_two hcb hk, immWord_loByte_hiByte, hmap]
  rfl

/-- An unprefixed word that decodes is the cell at its opcode, with the operand it carries. -/
theorem decode_ok_of_ne {op : Byte} {tail rest : List Byte} {i : Instr} (hcb : op ≠ 0xCB) (hstop : op ≠ 0x10)
    (h : decode (op :: tail) = .ok (i, rest)) :
    ∃ n w, opcodeMap op n w = some i ∧ op :: tail = cellBytes op n w ++ rest := by
  have hcell := cellBytes_of_ne hcb hstop
  obtain hk | hk | hk := fetchedAfterOpcode_cases op
  · obtain ⟨hi, rfl⟩ := handlerOr_eq_ok.1 (decode_of_fetched_zero hcb hk hstop tail ▸ h)
    exact ⟨0, 0, hi, by rw [hcell, hk]; rfl⟩
  · obtain _ | ⟨n, tail⟩ := tail
    · simp only [decode, if_neg hcb, hk, reduceCtorEq] at h
    · obtain ⟨hi, rfl⟩ := handlerOr_eq_ok.1 (decode_of_fetched_one hcb hk n tail ▸ h)
      exact ⟨n, 0, hi, by rw [hcell, hk]; rfl⟩
  · obtain _ | ⟨lo, _ | ⟨hi, tail⟩⟩ := tail
    · simp only [decode, if_neg hcb, hk, reduceCtorEq] at h
    · simp only [decode, if_neg hcb, hk, reduceCtorEq] at h
    · obtain ⟨hm, rfl⟩ := handlerOr_eq_ok.1 (decode_of_fetched_two hcb hk lo hi tail ▸ h)
      exact ⟨0, immWord lo hi, hm, by simp [hcell, hk, operandBytes]⟩

/-- Three bytes are enough for every opcode (R157). -/
theorem exists_decode (b0 b1 b2 : Byte) (rest : List Byte) :
    ∃ i rest', decode (b0 :: b1 :: b2 :: rest) = .ok (i, rest') := by
  by_cases hcb : b0 = 0xCB
  · obtain ⟨i, hi⟩ := exists_cbMap b1
    exact ⟨i, b2 :: rest, by rw [hcb, decode_cb, hi]; rfl⟩
  by_cases hstop : b0 = 0x10
  · exact ⟨.stop, b2 :: rest, by rw [hstop, decode_stop]; rfl⟩
  obtain hk | hk | hk := fetchedAfterOpcode_cases b0
  · obtain ⟨i, hi⟩ := exists_opcodeMap b0 0 0
    exact ⟨i, b1 :: b2 :: rest, by rw [decode_of_fetched_zero hcb hk hstop, hi]; rfl⟩
  · obtain ⟨i, hi⟩ := exists_opcodeMap b0 b1 0
    exact ⟨i, b2 :: rest, by rw [decode_of_fetched_one hcb hk, hi]; rfl⟩
  · obtain ⟨i, hi⟩ := exists_opcodeMap b0 0 (immWord b1 b2)
    exact ⟨i, rest, by rw [decode_of_fetched_two hcb hk, hi]; rfl⟩

/-! ## The obligations -/

/-- Settles O1: by the constructors of `Instr`. A word operand comes back from its two bytes; every other
instruction's encoding holds its operands as they are, and `decode` runs on it. -/
theorem decodeEncode : Obligations.DecodeEncode := by
  intro i rest h
  cases i
  case prefixCb => cases h
  case ldBcD16 w | ldDeD16 w | ldHlD16 w | ldSpD16 w | ldMemA16Sp w | jpA16 w | jpNzA16 w | jpZA16 w
      | jpNcA16 w | jpCA16 w | callA16 w | callNzA16 w | callZA16 w | callNcA16 w | callCA16 w
      | ldMemA16A w | ldAMemA16 w =>
    exact decode_loByte_hiByte (by decide) rfl (fun _ => rfl) w rest
  all_goals rfl

/-- Settles O2: the first byte selects the branch of the decoder, and the cell found there encodes to the bytes
that were read. -/
theorem encodeDecode : Obligations.EncodeDecode := by
  intro bs i rest h
  obtain _ | ⟨op, tail⟩ := bs
  · cases h
  by_cases hcb : op = 0xCB
  · subst hcb
    obtain _ | ⟨op2, tail⟩ := tail
    · cases h
      exact .inr (.inl ⟨rfl, rfl, rfl⟩)
    · obtain ⟨hi, rfl⟩ := handlerOr_eq_ok.1 (decode_cb op2 tail ▸ h)
      have he := encode_of_cbMap hi
      obtain ⟨hstop, hwf⟩ := ne_stop_and_wf_of_encode (i := i) (by simp [he]) (by simp [he])
      exact .inr (.inr ⟨hstop, hwf, by rw [he]; rfl⟩)
  by_cases hop : op = 0x10
  · subst hop
    cases h
    exact .inl ⟨rfl, tail, rfl, rfl⟩
  · obtain ⟨n, w, hi, hbs⟩ := decode_ok_of_ne hcb hop h
    have he := encode_of_opcodeMap hi
    have hne : ∀ b l, b ≠ op → encode i ≠ b :: l := fun b l hb hl => by
      rw [he, cellBytes_of_ne hcb hop] at hl
      exact hb (List.cons.inj hl).1.symm
    obtain ⟨hstop, hwf⟩ := ne_stop_and_wf_of_encode (hne _ _ (Ne.symm hop)) (hne _ _ (Ne.symm hcb))
    exact .inr (.inr ⟨hstop, hwf, by rw [he, hbs]⟩)

/-- Settles O3: three bytes decode, and by `encodeDecode` to no lone 0xCB. -/
theorem everyOpcodeDecodes : Obligations.EveryOpcodeDecodes := by
  intro b0 b1 b2 rest
  obtain ⟨i, rest', h⟩ := exists_decode b0 b1 b2 rest
  refine ⟨i, rest', h, ?_⟩
  obtain ⟨rfl, -⟩ | ⟨-, hbs, -⟩ | ⟨-, hwf, -⟩ := encodeDecode _ _ _ h
  · rfl
  · cases hbs
  · exact hwf

/-- Settles O4: each word is a cell of its map, found by running `decode`. -/
theorem decodeWords : Obligations.DecodeWords :=
  ⟨rfl, rfl, rfl, rfl, rfl, rfl, rfl, rfl, rfl, rfl, rfl, rfl, rfl, rfl, rfl⟩

end Sys2Proof
end

section
/-! The step (40_execution_engine.md): what ends it, the halted step, the fetch of a whole instruction, and the
lone byte 0xCB as the instruction of the 0xCB page it selects. -/

namespace Sys2Proof.Machine

open Sys2Proof.Claims

/-! ## The parts of a step -/

theorem endOfStep_of_ime {s : State} (h : s.cpu.ime = true) :
    endOfStep s = (dispatch s).andThen fun _ t => .ok () (clearImePending t) :=
  if_pos h

theorem endOfStep_of_pending {s : State} (h : s.cpu.ime = false) (hp : s.cpu.imePending = true) :
    endOfStep s = .ok () { s with cpu := { s.cpu with ime := true, imePending := false } } := by
  unfold endOfStep
  rw [h, hp]
  rfl

theorem endOfStep_of_disabled {s : State} (h : s.cpu.ime = false) (hp : s.cpu.imePending = false) :
    endOfStep s = .ok () s := by
  unfold endOfStep
  rw [h, hp]
  rfl

/-- A running machine stays for the end of the step (R180). -/
theorem afterExec_running {t : State} (h : t.status = .running) :
    afterExec (.next t) = finish (endOfStep t) := by
  simp only [afterExec, h]

/-- A machine that its instruction stopped has no end of the step (R180). -/
theorem afterExec_stopped {t : State} (h : t.status ≠ .running) : afterExec (.next t) = .next t := by
  unfold afterExec
  cases hs : t.status
  case running => exact absurd hs h
  all_goals simp only [hs]

theorem step_of_halted {s : State} (hs : s.status = .running) (h : s.cpu.halted = true) :
    step s = haltedMachineStep s := by
  unfold step
  rw [hs]
  exact if_pos h

theorem step_of_fetch {s u : State} {i : Instr} (hs : s.status = .running) (h : s.cpu.halted = false)
    (hf : fetch s = .ok i u) : step s = afterExec (exec i u) := by
  unfold step
  rw [hs, h, hf]
  rfl

/-- The halted step after its machine cycle (R186): a request of any source clears `halted`. -/
theorem haltedMachineStep_of_idle {s u : State} (h : idle s = .ok () u) :
    haltedMachineStep s = finish (endOfStep
      (if u.irq.req = 0 then u else { u with cpu := { u.cpu with halted := false } })) := by
  unfold haltedMachineStep haltedStep
  rw [h]
  simp only [Res.andThen_ok]
  split <;> rfl

/-- To the host every part of a step is a next state (log 9). -/
theorem exists_finish (r : Res Unit) : ∃ t, finish r = .next t := by
  cases r
  · exact ⟨_, rfl⟩
  · exact ⟨_, rfl⟩

/-! ## The bytes of an instruction -/

theorem decode_encode_self {i : Instr} (hwf : i.wf = true) : decode (encode i) = .ok (i, []) := by
  simpa only [List.append_nil] using decodeEncode i [] hwf

/-- The bytes of a complete instruction other than STOP are those that are fetched for it (R181-R183). -/
theorem fetchedAfterOpcode_of_decode {op : Byte} {tail : List Byte} {i : Instr} (hwf : i.wf = true)
    (hi : i ≠ .stop) (h : decode (op :: tail) = .ok (i, [])) : fetchedAfterOpcode op = tail.length := by
  by_cases hcb : op = 0xCB
  · subst hcb
    obtain _ | ⟨op2, tail⟩ := tail
    · cases h
      cases hwf
    · obtain ⟨-, rfl⟩ := handlerOr_eq_ok.1 (decode_cb op2 tail ▸ h)
      rfl
  · have hop : op ≠ 0x10 := by
      rintro rfl
      exact hi (congrArg Prod.fst (Except.ok.inj h)).symm
    obtain ⟨n, w, -, hbytes⟩ := decode_ok_of_ne hcb hop h
    rw [cellBytes_of_ne hcb hop, List.append_nil] at hbytes
    rw [(List.cons.inj hbytes).2]
    obtain hk | hk | hk := fetchedAfterOpcode_cases op <;> rw [hk] <;> rfl

/-- What a step fetches for a complete instruction: an opcode and the bytes that it asks for, which decode to the
instruction; of STOP the opcode alone (R156). -/
theorem exists_fetched {i : Instr} (hwf : i.wf = true) :
    ∃ op tail, (if i = .stop then [0x10] else encode i) = op :: tail ∧
      fetchedAfterOpcode op = tail.length ∧ decode (op :: tail) = .ok (i, []) := by
  by_cases hi : i = .stop
  · subst hi
    exact ⟨0x10, [], rfl, rfl, rfl⟩
  · have hd := decode_encode_self hwf
    rw [if_neg hi]
    cases he : encode i with
    | nil =>
      rw [he] at hd
      cases hd
    | cons op tail =>
      rw [he] at hd
      exact ⟨op, tail, rfl, fetchedAfterOpcode_of_decode hwf hi hd, hd⟩

/-! ## The 0xCB page -/

/-- An instruction of the 0xCB page is the effect that its second byte selects (R180, R294). -/
theorem exec_of_cbMap {op2 : Byte} {i : Instr} (h : cbMap op2 = some i) (s : State) :
    exec i s = finish (executeCb op2 s) := by
  have hmap : (cbMap op2).map (fun i => exec i s) = some (finish (executeCb op2 s)) := by
    refine eq_of_rows (f := fun op2 => (cbMap op2).map fun i => exec i s)
      (g := fun op2 => some (finish (executeCb op2 s))) (fun r hr => ?_) op2
    interval_cases r <;> rfl
  rw [h] at hmap
  exact Option.some.inj hmap

theorem cbMap_of_decode {op2 : Byte} {i : Instr} (h : decode [0xCB, op2] = .ok (i, [])) :
    cbMap op2 = some i :=
  (handlerOr_eq_ok.1 h).1

/-- Time passes over neither HL nor what can be stored there. -/
theorem storable_hlAddress_elapsed {n : Nat} {s t : State} (hs : ∀ v, s.Storable (hlAddress s) v)
    (he : Elapsed n s t) (v : Byte) : t.Storable (hlAddress t) v := by
  have hhl : hlAddress t = hlAddress s := by
    unfold hlAddress
    rw [he.cpu]
  rw [hhl]
  exact (hs v).elapsed he

/-- After an operand was read, a live machine on which the byte at HL can be stored is one again. -/
theorem readOperand_live {s : State} (h : Live s) (hs : ∀ v, s.Storable (hlAddress s) v) (key : Opcode)
    (o : Operand8) :
    (readOperand (s.gaps key) o s).Done fun _ t => Live t ∧ ∀ v, t.Storable (hlAddress t) v := by
  have hready : OperandReady s key o := ⟨h.canPass _, fun _ => ⟨h, (hs 0).1⟩⟩
  exact (readOperand_done hready).mono fun _ t ⟨m, hsm, _, _, ht, hmt, _, _⟩ =>
    ⟨ht h, storable_hlAddress_elapsed hs (hsm.trans hmt)⟩

theorem writeOperand_live {s : State} (h : Live s) (hs : ∀ v, s.Storable (hlAddress s) v) (g : List Nat)
    (o : Operand8) (v : Byte) : (writeOperand g o v s).Done fun _ t => Live t := by
  cases o with
  | reg r => exact Res.done_ok (live_setReg8 h r v)
  | memHl => exact (writeThen_live h (hs v) g 2).mono fun _ _ ht => ht.1
  | imm => exact Res.done_ok h

/-- An operation of the 0xCB page leaves a live machine live where the byte at HL can be stored. -/
theorem executeCb_live {s : State} (h : Live s) (hs : ∀ v, s.Storable (hlAddress s) v) (op2 : Byte) :
    (executeCb op2 s).Done fun _ t => Live t := by
  have hread := readOperand_live h hs (.cb op2)
  have hmodify : ∀ f o, (modify (s.gaps (.cb op2)) f o s).Done fun _ t => Live t := fun f o =>
    (hread o).andThen fun v _ ⟨ht, hst⟩ => writeOperand_live ht hst _ o (f v)
  unfold executeCb
  dsimp only
  split
  case h_1 =>
    exact (hread _).andThen fun _ _ ⟨ht, hst⟩ => (writeOperand_live ht hst _ _ _).andThen fun _ _ hu =>
      Res.done_ok (hu.withCpu _)
  case h_2 => exact (hread _).andThen fun _ _ ⟨ht, _⟩ => Res.done_ok (ht.withCpu _)
  case h_3 => exact hmodify _ _
  case h_4 => exact hmodify _ _

/-- The lone byte 0xCB fetches the byte after it and is the instruction which that byte selects (R182, R346). -/
theorem prefixCb_live {s : State} {op2 : Byte} {i : Instr} (h : Live s) (hb : s.HoldsBytes s.cpu.pc [op2])
    (hi : cbMap op2 = some i) :
    ∃ u, Live u ∧ Elapsed ((s.cycleLine (.main 0xCB)).fetch.getD 0 0 + 1) (s.setPc (s.cpu.pc + 1)) u ∧
      exec .prefixCb s = exec i u := by
  obtain ⟨_, m, hpause, hm, hsm⟩ := pause_live h (s.cycleLine (.main 0xCB)).fetch 0
  obtain ⟨hpeek, hstill, -⟩ : m.HoldsBytes m.cpu.pc [op2] := by
    rw [hsm.cpu]
    exact State.HoldsBytes.elapsed hsm _ _ hb
  obtain ⟨v, u, himm, hv, hu, hmu⟩ := imm8_live hm hstill.readable
  have hop2 : v = op2 := hv.trans hpeek
  subst hop2
  refine ⟨u, hu, (hsm.setCpu fun c => { c with pc := c.pc + 1 }).trans hmu, ?_⟩
  have hexec : exec .prefixCb s = finish (executeCb v u) := by
    show execPrefixCb s = _
    simp only [execPrefixCb, hpause, himm, Res.andThen_ok]
  rw [hexec, exec_of_cbMap hi]

end Sys2Proof.Machine

/-! ## The obligations -/

namespace Sys2Proof.Laws.Engine

open Sys2Proof.Machine Sys2Proof.Claims

/-- Settles O8: the three cases of `endOfStep`. -/
theorem endOfStep : Obligations.EndOfStep :=
  fun _ => ⟨endOfStep_of_ime, endOfStep_of_pending, endOfStep_of_disabled⟩

/-- Settles O7: a live machine's idle cycle goes on, and the halted step after it looks at the requests alone. -/
theorem haltedStep : Obligations.HaltedStep := by
  intro s h hhalted
  obtain ⟨_, u, hidle, hu, he⟩ := idle_live h
  have hstep := (step_of_halted h.running hhalted).trans (haltedMachineStep_of_idle hidle)
  refine ⟨u, hu, he, fun hreq => ?_, fun hreq => ?_⟩
  · rw [hstep, if_neg hreq]
  · rw [hstep, if_pos hreq]

/-- Settles O5: the bytes at PC are fetched and decode to the instruction, and the rest is `afterExec`. -/
theorem stepRunsDecoded : Obligations.StepRunsDecoded := by
  intro s i bytes h hawake hwf hbytes hb
  obtain ⟨op, tail, hcell, hn, hd⟩ := exists_fetched hwf
  obtain rfl := hbytes.trans hcell
  obtain ⟨u, hf, hu, he⟩ := fetch_live h hb hn hd
  have hstep := step_of_fetch h.running hawake hf
  refine ⟨u, hf, hu, he, hstep, fun t ht hrun => ?_, fun t ht hstop => ?_⟩
  · rw [hstep, ht, afterExec_running hrun]
  · rw [hstep, ht, afterExec_stopped hstop]

/-- Settles O58: the effect that the byte at PC selects is that of its instruction, and leaves the machine live
where it can store its result. -/
theorem prefixByte : Obligations.PrefixByte := by
  intro s b i h hb hd
  have hi := cbMap_of_decode hd
  obtain ⟨u, hu, he, hexec⟩ := prefixCb_live h hb hi
  obtain ⟨t, ht⟩ := exists_finish (executeCb b u)
  have hnext : exec .prefixCb s = .next t := by rw [hexec, exec_of_cbMap hi, ht]
  refine ⟨u, t, hu, he, hexec, hnext, fun hs => ?_⟩
  have hs' : ∀ v, u.Storable (hlAddress u) v :=
    storable_hlAddress_elapsed (s := s.setPc (s.cpu.pc + 1)) (fun v => (hs v).of_params rfl) he
  obtain ⟨x, hx, hlive⟩ := finish_done (executeCb_live hu hs' b)
  obtain rfl := Host.Outcome.next.inj (ht.symm.trans hx)
  exact hlive

end Sys2Proof.Laws.Engine
end

section
/-! `CYCLE_TABLE` (40_execution_engine.md R188, R189): the machine cycles that each operation counts wherever it
goes on, and with them the cost of every instruction under the default table. -/

namespace Sys2Proof.Machine

open Sys2Proof.Claims

/-! ## Counting machine cycles -/

/-- Wherever the part goes on, it has counted `n` machine cycles since `s`. -/
def Res.Takes {α : Type} (r : Res α) (s : State) (n : Nat) : Prop := r.Sat fun _ t => t.cycles = s.cycles + n

theorem Res.takes_ok {α : Type} {a : α} {s t : State} (h : t.cycles = s.cycles) : (Res.ok a t).Takes s 0 := h

theorem Res.Takes.andThen {α β : Type} {r : Res α} {f : α → State → Res β} {s : State} {m n : Nat}
    (h : r.Takes s m) (hf : ∀ a t, (f a t).Takes t n) : (r.andThen f).Takes s (m + n) :=
  Res.Sat.andThen h fun a t ht => (hf a t).mono fun _ u hu => by rw [hu, ht, Nat.add_assoc]

/-- A rest that makes no access and passes no internal cycle counts nothing. -/
theorem Res.Takes.andThen_zero {α β : Type} {r : Res α} {f : α → State → Res β} {s : State} {n : Nat}
    (h : r.Takes s n) (hf : ∀ a t, (f a t).Takes t 0) : (r.andThen f).Takes s n :=
  h.andThen hf

/-- A part counts the same from a state with the same count. -/
theorem Res.Takes.of_cycles_eq {α : Type} {r : Res α} {s s' : State} {n : Nat} (h : r.Takes s' n)
    (hs : s'.cycles = s.cycles) : r.Takes s n :=
  h.mono fun _ _ ht => by rw [ht, hs]

/-- What an instruction's next state has counted, if the machine still runs. -/
theorem Res.Takes.cycles_of_finish {r : Res Unit} {s t : State} {n : Nat} (h : r.Takes s n)
    (ht : finish r = .next t) (hrun : t.status = .running) : t.cycles = s.cycles + n := by
  cases r with
  | ok _ u =>
    cases ht
    exact h
  | stop u =>
    cases ht
    exact absurd hrun h

/-! ## The timed accesses -/

theorem idle_takes (s : State) : (idle s).Takes s 1 := (cycle_elapsed s).mono fun _ _ h => h.cycles

theorem idles_takes (n : Nat) (s : State) : (Res.repeat idle n s).Takes s n :=
  Res.sat_repeat (P := fun n s t => t.cycles = s.cycles + n) (fun _ => rfl)
    (fun n s => (idle_takes s).mono fun _ t ht u hu => by rw [hu, ht]; omega) n s

theorem pause_takes (g : List Nat) (k : Nat) (s : State) : (pause g k s).Takes s (g.getD k 0) := idles_takes _ s

theorem busRead_takes (a : Word) (s : State) : (busRead a s).Takes s 0 :=
  (busRead_moved a s).mono fun _ _ h => h.cycles

theorem writeHdma5_takes (v : Byte) (s : State) : (writeHdma5 v s).Takes s 0 := by
  unfold writeHdma5
  split
  · exact Res.takes_ok rfl
  · split
    · exact (hdmaCopy_advanced _ _).mono fun _ _ h => h.cycles
    · exact Res.takes_ok rfl

/-- A bus write takes no time itself (R80); its machine cycle is `wr`'s. -/
theorem busWrite_takes (a : Word) (v : Byte) (s : State) : (busWrite a v s).Takes s 0 := by
  unfold busWrite
  cases s.locate a
  case io r =>
    cases r
    case hdma5 => exact writeHdma5_takes v s
    case cgbVideo => exact sat_refuse _ _ _
    all_goals exact Res.takes_ok rfl
  all_goals exact Res.takes_ok rfl

theorem rd_takes (a : Word) (s : State) : (rd a s).Takes s 1 :=
  (busRead_takes a s).andThen (n := 1) fun _ t => (idle_takes t).andThen_zero fun _ _ => Res.takes_ok rfl

theorem wr_takes (a : Word) (v : Byte) (s : State) : (wr a v s).Takes s 1 :=
  (busWrite_takes a v s).andThen (n := 1) fun _ t => idle_takes t

theorem readThen_takes (g : List Nat) (k : Nat) (a : Word) (s : State) :
    (readThen g k a s).Takes s (1 + g.getD k 0) :=
  (rd_takes a s).andThen fun _ t => (pause_takes g k t).andThen_zero fun _ _ => Res.takes_ok rfl

theorem writeThen_takes (g : List Nat) (k : Nat) (a : Word) (v : Byte) (s : State) :
    (writeThen g k a v s).Takes s (1 + g.getD k 0) :=
  (wr_takes a v s).andThen fun _ t => pause_takes g k t

theorem pushByte_takes (g : List Nat) (k : Nat) (v : Byte) (s : State) :
    (pushByte g k v s).Takes s (1 + g.getD k 0) :=
  (writeThen_takes g k _ v (s.setSp (s.cpu.sp - 1))).of_cycles_eq rfl

theorem popByte_takes (s : State) : (popByte s).Takes s 1 :=
  (rd_takes _ s).andThen_zero fun _ _ => Res.takes_ok rfl

/-! ## The operations -/

/-- The machine cycles of an effect that makes `accesses` accesses, with the internal cycles `g` by place: those
before the first access, then each access and those after it (R185, R189). -/
def effectCycles (g : List Nat) : Nat → Nat
  | 0 => g.getD 0 0
  | n + 1 => effectCycles g n + (1 + g.getD (n + 1) 0)

theorem settle_takes {g : List Nat} {s s' : State} (h : s'.cycles = s.cycles) :
    (settle g s').Takes s (effectCycles g 0) :=
  (pause_takes g 0 s').of_cycles_eq h

theorem loadFrom_takes (g : List Nat) (r : Reg8) (a : Word) (s : State) :
    (loadFrom g r a s).Takes s (effectCycles g 1) :=
  (pause_takes g 0 s).andThen fun _ t => (readThen_takes g 1 a t).andThen_zero fun v u =>
    Res.takes_ok (u.setReg8_cycles r v)

theorem storeTo_takes (g : List Nat) (a : Word) (v : Byte) (s : State) :
    (storeTo g a v s).Takes s (effectCycles g 1) :=
  (pause_takes g 0 s).andThen fun _ t => writeThen_takes g 1 a v t

/-- The post-increment and -decrement of HL cost nothing (R183). -/
theorem Res.Takes.bumpHl {r : Res Unit} {s : State} {n : Nat} (h : r.Takes s n) (w : Word) :
    (r.andThen (Machine.bumpHl w)).Takes s n :=
  h.andThen_zero fun _ t => Res.takes_ok (t.setReg16_cycles .hl (t.hl + w))

/-- Two accesses in a row, after the internal cycles before them. -/
theorem Res.Takes.twoAccesses {α β γ : Type} {r : Res α} {f : α → State → Res β} {k : α → β → State → Res γ}
    {g : List Nat} {s : State} (h : r.Takes s (g.getD 0 0)) (hf : ∀ a t, (f a t).Takes t (1 + g.getD 1 0))
    (hk : ∀ a b t, (k a b t).Takes t (1 + g.getD 2 0)) :
    (r.andThen fun a t => (f a t).andThen (k a)).Takes s (effectCycles g 2) := by
  have htwo := h.andThen fun a t => (hf a t).andThen fun b u => hk a b u
  rwa [← Nat.add_assoc] at htwo

theorem storeWord_takes (g : List Nat) (a v : Word) (s : State) :
    (storeWord g a v s).Takes s (effectCycles g 2) :=
  (pause_takes g 0 s).twoAccesses (fun _ t => writeThen_takes g 1 a _ t) fun _ _ t => writeThen_takes g 2 _ _ t

theorem pushWord_takes (g : List Nat) (v : Word) (s : State) : (pushWord g v s).Takes s (effectCycles g 2) :=
  (pause_takes g 0 s).twoAccesses (fun _ t => pushByte_takes g 1 _ t) fun _ _ t => pushByte_takes g 2 _ t

theorem popWord_takes (g : List Nat) (s : State) : (popWord g s).Takes s (effectCycles g 2) := by
  have h : (popWord g s).Takes s (g.getD 0 0 + (1 + (g.getD 1 0 + (1 + g.getD 2 0)))) :=
    (pause_takes g 0 s).andThen fun _ t => (popByte_takes t).andThen fun _ t => (pause_takes g 1 t).andThen fun _ t =>
      (popByte_takes t).andThen fun _ t => (pause_takes g 2 t).andThen_zero fun _ _ => Res.takes_ok rfl
  simpa only [effectCycles, Nat.add_assoc] using h

theorem pop_takes (g : List Nat) (r : StackReg) (s : State) : (pop g r s).Takes s (effectCycles g 2) :=
  (popWord_takes g s).andThen_zero fun v t => Res.takes_ok (t.setStackReg_cycles r v)

theorem returnPop_takes (g : List Nat) (s : State) : (returnPop g s).Takes s (effectCycles g 2) :=
  (popWord_takes g s).andThen_zero fun _ _ => Res.takes_ok rfl

theorem call_takes (g : List Nat) (a : Word) (s : State) : (call g a s).Takes s (effectCycles g 2) :=
  (pushWord_takes g _ s).andThen_zero fun _ _ => Res.takes_ok rfl

theorem jump_takes (g : List Nat) (a : Word) (s : State) : (jump g a s).Takes s (effectCycles g 0) :=
  (pause_takes g 0 s).andThen_zero fun _ _ => Res.takes_ok rfl

theorem jumpRelative_takes (g : List Nat) (e : Byte) (s : State) :
    (jumpRelative g e s).Takes s (effectCycles g 0) :=
  (pause_takes g 0 s).andThen_zero fun _ _ => Res.takes_ok rfl

theorem incMem_takes (g : List Nat) (a : Word) (s : State) : (incMem g a s).Takes s (effectCycles g 2) :=
  (pause_takes g 0 s).twoAccesses (fun _ t => readThen_takes g 1 a t) fun _ _ _ =>
    ((writeThen_takes g 2 a _ _).of_cycles_eq rfl).andThen_zero fun _ _ => Res.takes_ok rfl

theorem decMem_takes (g : List Nat) (a : Word) (s : State) : (decMem g a s).Takes s (effectCycles g 2) :=
  (pause_takes g 0 s).twoAccesses (fun _ t => readThen_takes g 1 a t) fun _ _ _ =>
    ((writeThen_takes g 2 a _ _).of_cycles_eq rfl).andThen_zero fun _ _ => Res.takes_ok rfl

/-- The accesses of reading an operand, or of writing one: none but for the byte at HL (R149). -/
def operandAccesses : Operand8 → Nat
  | .reg _ => 0
  | .memHl => 1
  | .imm _ => 0

theorem readOperand_takes (g : List Nat) (o : Operand8) (s : State) :
    (readOperand g o s).Takes s (effectCycles g (operandAccesses o)) := by
  cases o with
  | reg r => exact (pause_takes g 0 s).andThen_zero fun _ _ => Res.takes_ok rfl
  | imm v => exact (pause_takes g 0 s).andThen_zero fun _ _ => Res.takes_ok rfl
  | memHl => exact (pause_takes g 0 s).andThen fun _ t => readThen_takes g 1 _ t

theorem alu_takes (g : List Nat) (op : AluOp) (o : Operand8) (s : State) :
    (alu g op o s).Takes s (effectCycles g (operandAccesses o)) :=
  (readOperand_takes g o s).andThen_zero fun _ _ => Res.takes_ok rfl

theorem testBit_takes (g : List Nat) (b : BitVec 3) (o : Operand8) (s : State) :
    (testBit g b o s).Takes s (effectCycles g (operandAccesses o)) :=
  (readOperand_takes g o s).andThen_zero fun _ _ => Res.takes_ok rfl

theorem writeOperand_takes (g : List Nat) (o : Operand8) (v : Byte) (s : State) :
    (writeOperand g o v s).Takes s (operandAccesses o * (1 + g.getD 2 0)) := by
  cases o with
  | reg r =>
    rw [operandAccesses, Nat.zero_mul]
    exact Res.takes_ok (s.setReg8_cycles r v)
  | imm w =>
    rw [operandAccesses, Nat.zero_mul]
    exact Res.takes_ok rfl
  | memHl =>
    rw [operandAccesses, Nat.one_mul]
    exact writeThen_takes g 2 _ v s

theorem effectCycles_read_write (g : List Nat) (o : Operand8) :
    effectCycles g (2 * operandAccesses o) =
      effectCycles g (operandAccesses o) + operandAccesses o * (1 + g.getD 2 0) := by
  cases o <;> simp [operandAccesses, effectCycles]

theorem modify_takes (g : List Nat) (f : Byte → Byte) (o : Operand8) (s : State) :
    (modify g f o s).Takes s (effectCycles g (2 * operandAccesses o)) := by
  rw [effectCycles_read_write]
  exact (readOperand_takes g o s).andThen fun v t => writeOperand_takes g o (f v) t

theorem rotate_takes (g : List Nat) (op : RotOp) (o : Operand8) (s : State) :
    (rotate g op o s).Takes s (effectCycles g (2 * operandAccesses o)) := by
  rw [effectCycles_read_write]
  exact (readOperand_takes g o s).andThen fun _ t => (writeOperand_takes g o _ t).andThen_zero fun _ _ =>
    Res.takes_ok rfl

theorem notTaken_takes (line : CycleLine) (s : State) : (notTaken line s).Takes s line.notTaken := idles_takes _ s

/-- The accesses of an instruction of the 0xCB page: none on a register; of the byte at HL, BIT reads it and the
others write it too (R294, R303). -/
def cbAccesses (op2 : Byte) : Nat :=
  if op2.toNat % 8 ≠ 6 then 0 else if op2.toNat / 64 = 1 then 1 else 2

theorem operandAccesses_operandOfField (z : BitVec 3) :
    operandAccesses (operandOfField z) = if z.toNat ≠ 6 then 0 else 1 := by
  revert z
  decide

/-- Of the byte after 0xCB, the low three bits name the operand and the top two BIT (R142, R294). -/
theorem cbAccesses_eq (op2 : Byte) :
    cbAccesses op2 = (if (op2.extractLsb' 6 2).toNat = 1 then 1 else 2) *
      operandAccesses (operandOfField (op2.extractLsb' 0 3)) := by
  have hz : (op2.extractLsb' 0 3).toNat = op2.toNat % 8 := by simp
  have hx : (op2.extractLsb' 6 2).toNat = op2.toNat / 64 := by
    simp [Nat.shiftRight_eq_div_pow]
    omega
  unfold cbAccesses
  rw [operandAccesses_operandOfField, hz, hx]
  split <;> simp

theorem executeCb_takes (op2 : Byte) (s : State) :
    (executeCb op2 s).Takes s (effectCycles (s.gaps (.cb op2)) (cbAccesses op2)) := by
  rw [cbAccesses_eq]
  unfold executeCb
  dsimp only
  split
  case h_1 hx =>
    rw [hx]
    exact rotate_takes _ _ _ s
  case h_2 hx =>
    rw [hx, if_pos rfl, Nat.one_mul]
    exact testBit_takes _ _ _ s
  case h_3 hx =>
    rw [hx]
    exact modify_takes _ _ _ s
  case h_4 hx _ =>
    rw [if_neg hx]
    exact modify_takes _ _ _ s

/-! ## The lines of `CYCLE_TABLE` -/

theorem cycleLine_of_listed {s : State} {o : Opcode} {line : CycleLine} {rest : List (Opcode × CycleLine)}
    (h : s.params.cycleTable = (o, line) :: rest) : s.cycleLine o = line := by
  unfold State.cycleLine
  rw [h]
  simp [lookupCell]

theorem defaultLine_of_mem_internalRows :
    ∀ row ∈ internalRows, defaultLine (.main row.1) = { taken := row.2.1, notTaken := row.2.2 } := by
  decide

/-- An opcode that is not among the listed ones is in no group of the default's (R189). -/
theorem defaultLine_of_ne_internalRows {op : Byte} (h : ∀ row ∈ internalRows, row.1 ≠ op) :
    defaultLine (.main op) = {} := by
  have hn : ∀ l ⊆ internalRows.map Prod.fst, op ∉ l := fun l hl hop => by
    obtain ⟨row, hrow, hop'⟩ := List.mem_map.1 (hl hop)
    exact h row hrow hop'
  have he : ∀ b ∈ internalRows.map Prod.fst, op ≠ b := fun b hb hop =>
    hn [b] (List.cons_subset.2 ⟨hb, List.nil_subset _⟩) (List.mem_singleton.2 hop)
  simp only [defaultLine]
  rw [if_neg (hn _ (by decide)), if_neg (he _ (by decide)), if_neg (hn _ (by decide)), if_neg (hn _ (by decide)),
    if_neg (not_or.2 ⟨he _ (by decide), he _ (by decide)⟩), if_neg (hn _ (by decide))]

theorem fetchCycles_default {s : State} (h : s.params.cycleTable = []) (bytes : List Byte) :
    fetchCycles s bytes = bytes.length := by
  cases bytes with
  | nil => rfl
  | cons op rest => simp [fetchCycles, cycleLine_default h, defaultLine_fetch]

/-! ## The cost of an instruction -/

/-- With the default table, what an instruction's row says it costs: fetch and effect together, with the condition
holding and failing (R589). -/
def CostsRow (i : Instr) : Prop :=
  ∀ s t : State, s.params.cycleTable = [] → exec i s = .next t → t.status = .running →
    (¬conditionFails s (encode i) →
      (encode i).length + t.cycles = s.cycles + machineCycles (encode i) false) ∧
    (conditionFails s (encode i) →
      (encode i).length + t.cycles = s.cycles + machineCycles (encode i) true)

theorem conditionFails_iff {s : State} {op : Byte} {tail : List Byte} :
    conditionFails s (op :: tail) ↔ ∃ cc, conditionOf op = some cc ∧ s.cond cc = false := by
  simp [conditionFails, condHolds_iff]

/-- An instruction that stops the machine on every path costs nothing (R342, R345). -/
theorem costsRow_of_stops {i : Instr} {r : State → Res Unit} (hx : ∀ s, exec i s = finish (r s))
    (hr : ∀ s, ∃ t, r s = .stop t ∧ t.status ≠ .running) : CostsRow i := by
  intro s t _ ht hrun
  obtain ⟨u, hu, hstop⟩ := hr s
  rw [hx, hu] at ht
  cases ht
  exact absurd hrun hstop

/-- An unconditional instruction whose effect makes `accesses` accesses. -/
theorem costsRow_of_takes {i : Instr} {op : Byte} {tail : List Byte} {o : Opcode} {accesses : Nat}
    (he : encode i = op :: tail)
    (hx : ∀ s, ∃ r, exec i s = finish r ∧ r.Takes s (effectCycles (s.gaps o) accesses))
    (hc : conditionOf op = none)
    (hrow : (op :: tail).length + effectCycles (defaultLine o).taken accesses =
      machineCycles (op :: tail) false) : CostsRow i := by
  intro s t hs ht hrun
  obtain ⟨r, hexec, hr⟩ := hx s
  have hcyc := hr.cycles_of_finish (hexec ▸ ht) hrun
  rw [State.gaps, cycleLine_default hs] at hcyc
  rw [he, conditionFails_iff, hc]
  exact ⟨fun _ => by omega, nofun⟩

/-- A conditional instruction: an effect of `accesses` accesses, or the not-taken internal cycles alone. -/
theorem costsRow_of_condition {i : Instr} {op : Byte} {tail : List Byte} {cc : Cond} {accesses : Nat}
    {r : State → Res Unit} (he : encode i = op :: tail)
    (hx : ∀ s, exec i s =
      finish (if s.cond cc then r s else notTaken (s.cycleLine (.main op)) s))
    (hr : ∀ s, (r s).Takes s (effectCycles (s.gaps (.main op)) accesses))
    (hc : conditionOf op = some cc)
    (hrow : (op :: tail).length + effectCycles (defaultLine (.main op)).taken accesses =
      machineCycles (op :: tail) false)
    (hfailed : (op :: tail).length + (defaultLine (.main op)).notTaken =
      machineCycles (op :: tail) true) : CostsRow i := by
  intro s t hs ht hrun
  have hcond : conditionFails s (encode i) ↔ s.cond cc = false := by
    rw [he, conditionFails_iff, hc]
    simp
  have hline := cycleLine_default hs (.main op)
  rw [hx] at ht
  rw [hcond, he]
  cases hholds : s.cond cc with
  | true =>
    rw [hholds, if_pos rfl] at ht
    have hcyc := (hr s).cycles_of_finish ht hrun
    rw [State.gaps, hline] at hcyc
    exact ⟨fun _ => by omega, nofun⟩
  | false =>
    rw [hholds, if_neg Bool.false_ne_true] at ht
    have hcyc := (notTaken_takes _ s).cycles_of_finish ht hrun
    rw [hline] at hcyc
    exact ⟨fun h => absurd rfl h, fun _ => by omega⟩

theorem machineCycles_cb (op2 : Byte) : machineCycles [0xCB, op2] false = 2 + cbAccesses op2 := by
  show (if op2.toNat % 8 ≠ 6 then 2 else if op2.toNat / 64 = 1 then 3 else 4) = _
  unfold cbAccesses
  split_ifs <;> rfl

theorem effectCycles_nil (accesses : Nat) : effectCycles [] accesses = accesses := by
  induction accesses with
  | zero => rfl
  | succ n ih => simp [effectCycles, ih]

theorem costsRow_of_cb {i : Instr} {op2 : Byte} (hwf : i.wf = true) (he : encode i = [0xCB, op2]) :
    CostsRow i := by
  have hmap : cbMap op2 = some i := cbMap_of_decode (he ▸ decode_encode_self hwf)
  refine costsRow_of_takes he (fun s => ⟨_, exec_of_cbMap hmap s, executeCb_takes op2 s⟩) rfl ?_
  rw [machineCycles_cb]
  show 2 + effectCycles [] _ = _
  rw [effectCycles_nil]

/-- Every complete instruction costs what its row says, by the constructors of `Instr`: the operation it is tells
the accesses, and its opcode the row. -/
theorem costsRow {i : Instr} (hwf : i.wf = true) : CostsRow i := by
  cases i
  case prefixCb => cases hwf
  case stop | illegalD3 | illegalDB | illegalDD | illegalE3 | illegalE4 | illegalEB | illegalEC | illegalED
      | illegalF4 | illegalFC | illegalFD =>
    exact costsRow_of_stops (fun _ => rfl) fun _ => ⟨_, rfl, nofun⟩
  case ldBB | ldBC | ldBD | ldBE | ldBH | ldBL | ldBA | ldCB | ldCC | ldCD | ldCE | ldCH | ldCL | ldCA
      | ldDB | ldDC | ldDD | ldDE | ldDH | ldDL | ldDA | ldEB | ldEC | ldED | ldEE | ldEH | ldEL | ldEA
      | ldHB | ldHC | ldHD | ldHE | ldHH | ldHL | ldHA | ldLB | ldLC | ldLD | ldLE | ldLH | ldLL | ldLA
      | ldAB | ldAC | ldAD | ldAE | ldAH | ldAL | ldAA
      | ldBD8 | ldCD8 | ldDD8 | ldED8 | ldHD8 | ldLD8 | ldAD8 | ldBcD16 | ldDeD16 | ldHlD16 | ldSpD16
      | ldSpHl | ldHlSpE8
      | incB | incC | incD | incE | incH | incL | incA | decB | decC | decD | decE | decH | decL | decA
      | incBc | incDe | incHl | incSp | decBc | decDe | decHl | decSp
      | addHlBc | addHlDe | addHlHl | addHlSp | addSpE8
      | rlca | rrca | rla | rra | daa | cpl | scf | ccf | jpHl | nop | halt | di | ei =>
    exact costsRow_of_takes rfl (fun _ => ⟨_, rfl, settle_takes rfl⟩) rfl rfl
  case ldBMemHl | ldCMemHl | ldDMemHl | ldEMemHl | ldHMemHl | ldLMemHl | ldAMemHl | ldAMemBc | ldAMemDe | ldAMemC
      | ldhAMemA8 | ldAMemA16 =>
    exact costsRow_of_takes rfl (fun s => ⟨_, rfl, loadFrom_takes _ _ _ s⟩) rfl rfl
  case ldAMemHlInc | ldAMemHlDec =>
    exact costsRow_of_takes rfl (fun s => ⟨_, rfl, (loadFrom_takes _ _ _ s).bumpHl _⟩) rfl rfl
  case ldMemHlB | ldMemHlC | ldMemHlD | ldMemHlE | ldMemHlH | ldMemHlL | ldMemHlA | ldMemHlD8 | ldMemBcA
      | ldMemDeA | ldMemCA | ldhMemA8A | ldMemA16A =>
    exact costsRow_of_takes rfl (fun s => ⟨_, rfl, storeTo_takes _ _ _ s⟩) rfl rfl
  case ldMemHlIncA | ldMemHlDecA =>
    exact costsRow_of_takes rfl (fun s => ⟨_, rfl, (storeTo_takes _ _ _ s).bumpHl _⟩) rfl rfl
  case ldMemA16Sp => exact costsRow_of_takes rfl (fun s => ⟨_, rfl, storeWord_takes _ _ _ s⟩) rfl rfl
  case pushBc | pushDe | pushHl | pushAf =>
    exact costsRow_of_takes rfl (fun s => ⟨_, rfl, pushWord_takes _ _ s⟩) rfl rfl
  case popBc | popDe | popHl | popAf =>
    exact costsRow_of_takes rfl (fun s => ⟨_, rfl, pop_takes _ _ s⟩) rfl rfl
  case addAB | addAC | addAD | addAE | addAH | addAL | addAMemHl | addAA | addAD8
      | adcAB | adcAC | adcAD | adcAE | adcAH | adcAL | adcAMemHl | adcAA | adcAD8
      | subAB | subAC | subAD | subAE | subAH | subAL | subAMemHl | subAA | subAD8
      | sbcAB | sbcAC | sbcAD | sbcAE | sbcAH | sbcAL | sbcAMemHl | sbcAA | sbcAD8
      | andAB | andAC | andAD | andAE | andAH | andAL | andAMemHl | andAA | andAD8
      | xorAB | xorAC | xorAD | xorAE | xorAH | xorAL | xorAMemHl | xorAA | xorAD8
      | orAB | orAC | orAD | orAE | orAH | orAL | orAMemHl | orAA | orAD8
      | cpAB | cpAC | cpAD | cpAE | cpAH | cpAL | cpAMemHl | cpAA | cpAD8 =>
    exact costsRow_of_takes rfl (fun s => ⟨_, rfl, alu_takes _ _ _ s⟩) rfl rfl
  case incMemHl => exact costsRow_of_takes rfl (fun s => ⟨_, rfl, incMem_takes _ _ s⟩) rfl rfl
  case decMemHl => exact costsRow_of_takes rfl (fun s => ⟨_, rfl, decMem_takes _ _ s⟩) rfl rfl
  case jpA16 => exact costsRow_of_takes rfl (fun s => ⟨_, rfl, jump_takes _ _ s⟩) rfl rfl
  case jrE8 => exact costsRow_of_takes rfl (fun s => ⟨_, rfl, jumpRelative_takes _ _ s⟩) rfl rfl
  case callA16 | rst00 | rst08 | rst10 | rst18 | rst20 | rst28 | rst30 | rst38 =>
    exact costsRow_of_takes rfl (fun s => ⟨_, rfl, call_takes _ _ s⟩) rfl rfl
  case ret => exact costsRow_of_takes rfl (fun s => ⟨_, rfl, returnPop_takes _ s⟩) rfl rfl
  case reti =>
    exact costsRow_of_takes rfl (fun s => ⟨_, rfl, (returnPop_takes _ s).andThen_zero fun _ _ =>
      Res.takes_ok rfl⟩) rfl rfl
  case jpNzA16 | jpZA16 | jpNcA16 | jpCA16 =>
    exact costsRow_of_condition rfl (fun _ => rfl) (fun s => jump_takes _ _ s) rfl rfl rfl
  case jrNzE8 | jrZE8 | jrNcE8 | jrCE8 =>
    exact costsRow_of_condition rfl (fun _ => rfl) (fun s => jumpRelative_takes _ _ s) rfl rfl rfl
  case callNzA16 | callZA16 | callNcA16 | callCA16 =>
    exact costsRow_of_condition rfl (fun _ => rfl) (fun s => call_takes _ _ s) rfl rfl rfl
  case retNz | retZ | retNc | retC =>
    exact costsRow_of_condition rfl (fun _ => rfl) (fun s => returnPop_takes _ s) rfl rfl rfl
  -- what is left is the 0xCB page
  all_goals exact costsRow_of_cb rfl rfl

end Sys2Proof.Machine

/-! ## The obligation -/

namespace Sys2Proof.Laws.Timing

open Sys2Proof.Machine Sys2Proof.Claims

/-- Settles O11: `costsRow` for the costs; the places are those of the default's lines. -/
theorem instructionCycles : Obligations.InstructionCycles := by
  refine fun s => ⟨fun _ _ _ h => cycleLine_of_listed h, fun hs =>
    ⟨fun i t hwf => costsRow hwf s t hs, fun op taken notTaken hrow => ?listed, fun op hop => ?unlisted,
      fun op2 k => ?cb, fetchCycles_default hs⟩⟩
  case listed =>
    unfold gap gapNotTaken
    rw [cycleLine_default hs, defaultLine_of_mem_internalRows _ hrow]
    exact ⟨fun _ => rfl, rfl⟩
  case unlisted =>
    unfold gap gapNotTaken
    rw [cycleLine_default hs, defaultLine_of_ne_internalRows hop]
    exact ⟨fun _ => rfl, rfl⟩
  case cb =>
    unfold gap
    rw [cycleLine_default hs]
    rfl

end Sys2Proof.Laws.Timing
end

section
/-! The 8-bit loads (41_load8.md): the operations they are, in the terms of the claims. -/

namespace Sys2Proof.Claims

open Sys2Proof.Machine

/-- The address of the high-page forms (R148): that of the forms on C, which can hold any byte. -/
theorem highPage_eq (n : Byte) : 0xFF#8 ++ n = highPage n := cAddress_eq (State.reset.setReg8 .c n)

theorem hl_of_cpu_eq {s t : State} (h : t.cpu = s.cpu) : t.hl = s.hl := by
  unfold State.hl
  rw [h]

theorem StoredVia.cpu {key : Opcode} {a : Word} {v : Byte} {s t : State} (h : StoredVia key a v s t) :
    t.cpu = s.cpu := by
  obtain ⟨_, he, _, hst, _⟩ := h
  exact hst.cpu.trans he.cpu

/-- HL is moved after the access, and the machine cycles before the move have passed alike (R183). -/
theorem elapsed_bumpHl {n : Nat} {s t : State} (h : Elapsed n s t) (w : Word) :
    Elapsed n (s.setReg16 .hl (s.hl + w)) (t.setReg16 .hl (t.hl + w)) := by
  rw [hl_of_cpu_eq h.cpu]
  exact elapsed_setReg16 h .hl _

section
variable {i : Instr} {s : State} {key : Opcode} {a : Word} (h : Live s)
include h

theorem completesVia_loadFrom {r : Reg8} (hx : exec i s = finish (loadFrom (s.gaps key) r a s))
    (hr : s.Readable a) :
    CompletesVia i s (gap s key 0) (1 + gap s key 1) fun m => m.setReg8 r (m.peek a) := by
  obtain ⟨t, hf, m, hsm, hm, ht, hmt⟩ := finish_done (loadFrom_done h hr key r)
  exact ⟨m, t, hsm, fun _ => hm, hx.trans hf, fun _ => ht, hmt⟩

/-- The post-forms of LD A,(HL) move HL as it was before the access, which A's load leaves alone (R214, R215). -/
theorem completesVia_loadFrom_bumpHl {w : Word}
    (hx : exec i s = finish ((loadFrom (s.gaps key) .a s.hl s).andThen (bumpHl w))) (hr : s.Readable s.hl) :
    CompletesVia i s (gap s key 0) (1 + gap s key 1)
      fun m => (m.setReg8 .a (m.peek s.hl)).setReg16 .hl (s.hl + w) := by
  obtain ⟨_, u, hl, m, hsm, hm, hu, hmu⟩ := loadFrom_done h hr key .a
  have hhl : (m.setReg8 .a (m.peek s.hl)).hl = s.hl :=
    (hl_of_cpu_eq hsm.cpu : m.hl = s.hl)
  have hend := elapsed_bumpHl hmu w
  rw [hhl] at hend
  rw [hl] at hx
  exact ⟨m, _, hsm, fun _ => hm, hx, fun _ => live_setReg16 hu .hl _, hend⟩

theorem exists_storedVia {v : Byte} (hx : exec i s = finish (storeTo (s.gaps key) a v s))
    (hs : s.Storable a v) : ∃ t, exec i s = .next t ∧ StoredVia key a v s t := by
  obtain ⟨t, hf, ht⟩ := finish_done (storeTo_done h hs key)
  exact ⟨t, hx.trans hf, ht⟩

/-- The post-forms of LD (HL),A move HL as it was before the store (R216, R217). -/
theorem exists_storedVia_bumpHl {v : Byte} {w : Word}
    (hx : exec i s = finish ((storeTo (s.gaps key) s.hl v s).andThen (bumpHl w))) (hs : s.Storable s.hl v) :
    ∃ t, StoredVia key s.hl v s t ∧ exec i s = .next (t.setReg16 .hl (s.hl + w)) := by
  obtain ⟨_, t, hw, hst⟩ := storeTo_done h hs key
  refine ⟨t, hst, ?_⟩
  rw [hx, hw, ← hl_of_cpu_eq hst.cpu]
  rfl

end

end Sys2Proof.Claims

/-! ## The obligations -/

namespace Sys2Proof.Laws.Load8

open Sys2Proof.Machine Sys2Proof.Claims

/-- Settles O37: every form is one register write and its internal cycles. -/
theorem loadRegisterForms : Obligations.LoadRegisterForms :=
  ⟨fun _ _ dst r hrow => ⟨loadRegRows_reads _ hrow, fun s hs =>
      completes_settle (loadRegRows_exec _ hrow s) (setReg8_eq s dst (s.reg8 r)) hs⟩,
    fun _ _ dst hrow n => ⟨loadImmRows_reads _ hrow n, fun s hs =>
      completes_settle (loadImmRows_exec _ hrow n s) (setReg8_eq s dst n) hs⟩⟩

/-- Settles O38: every form is `loadFrom` at its address, and the post-forms move HL after it. -/
theorem loadFromMemory : Obligations.LoadFromMemory := by
  refine ⟨fun op i dst addr hrow => ⟨loadMemRows_reads _ hrow, fun s h hr => ?row⟩,
    fun n => ⟨reads_of_decode rfl rfl fun _ => rfl, fun s h hr => ?high⟩,
    fun lo hi => ⟨reads_of_decode rfl rfl fun _ => rfl, fun s h hr => ?direct⟩,
    ⟨reads_of_decode rfl rfl fun _ => rfl, fun s h hr => ?inc⟩,
    ⟨reads_of_decode rfl rfl fun _ => rfl, fun s h hr => ?dec⟩⟩
  case row => exact completesVia_loadFrom h (loadMemRows_exec _ hrow s) hr
  case high =>
    rw [highPage_eq] at hr ⊢
    exact completesVia_loadFrom h rfl hr
  case direct => exact completesVia_loadFrom h rfl hr
  case inc => exact completesVia_loadFrom_bumpHl h rfl hr
  case dec =>
    rw [sub_eq_add_neg]
    exact completesVia_loadFrom_bumpHl h rfl hr

/-- Settles O39: every form is `storeTo` at its address, and the post-forms move HL after it. -/
theorem storeToMemory : Obligations.StoreToMemory := by
  refine ⟨fun op i addr r hrow => ⟨storeRows_reads _ hrow, fun s h hs => ?row⟩,
    fun n => ⟨reads_of_decode rfl rfl fun _ => rfl, fun s h hs => ?immediate⟩,
    fun n => ⟨reads_of_decode rfl rfl fun _ => rfl, fun s h hs => ?high⟩,
    fun lo hi => ⟨reads_of_decode rfl rfl fun _ => rfl, fun s h hs => ?direct⟩,
    ⟨reads_of_decode rfl rfl fun _ => rfl, fun s h hs => ?inc⟩,
    ⟨reads_of_decode rfl rfl fun _ => rfl, fun s h hs => ?dec⟩⟩
  case row => exact exists_storedVia h (storeRows_exec _ hrow s) hs
  case immediate => exact exists_storedVia h rfl hs
  case high =>
    rw [highPage_eq] at hs ⊢
    exact exists_storedVia h rfl hs
  case direct => exact exists_storedVia h rfl hs
  case inc => exact exists_storedVia_bumpHl h rfl hs
  case dec =>
    rw [sub_eq_add_neg]
    exact exists_storedVia_bumpHl h rfl hs

end Sys2Proof.Laws.Load8
end

section
/-! A refused access (20_memory.md R87, 60_exceptions.md R412): it ends the timed access it stands in, and with that
every operation whose first access it is. -/

namespace Sys2Proof.Machine

open Sys2Proof.Claims

/-! ## The timed accesses -/

/-- Nothing happens after a refusal (R412). -/
@[simp] theorem refuse_andThen {α β : Type} (reason : Refusal) (s : State) (f : α → State → Res β) :
    (refuse reason s : Res α).andThen f = refuse reason s := rfl

section
variable {s : State} {a : Word} (h : s.locate a = .io .cgbVideo)
include h

theorem rd_refused : rd a s = refuse (.refusedCgbVideo a) s := by
  unfold rd
  rw [(bus_cgbVideo h 0).1, refuse_andThen]

theorem wr_refused (v : Byte) : wr a v s = refuse (.refusedCgbVideo a) s := by
  unfold wr
  rw [(bus_cgbVideo h v).2, refuse_andThen]

theorem readThen_refused (g : List Nat) (k : Nat) : readThen g k a s = refuse (.refusedCgbVideo a) s := by
  unfold readThen
  rw [rd_refused h, refuse_andThen]

theorem writeThen_refused (g : List Nat) (k : Nat) (v : Byte) :
    writeThen g k a v s = refuse (.refusedCgbVideo a) s := by
  unfold writeThen
  rw [wr_refused h, refuse_andThen]

end

theorem popByte_refused {s : State} (h : s.locate s.cpu.sp = .io .cgbVideo) :
    popByte s = refuse (.refusedCgbVideo s.cpu.sp) s := by
  unfold popByte
  rw [rd_refused h, refuse_andThen]

/-! ## The operations -/

/-- The part ends with the refusal of an access to `a`, and the `n` machine cycles before that access are all else
it does (R412). -/
def Res.RefusedAfter {α : Type} (r : Res α) (n : Nat) (s : State) (a : Word) : Prop :=
  ∃ m, Elapsed n s m ∧ r = refuse (.refusedCgbVideo a) m

theorem Res.RefusedAfter.andThen {α β : Type} {r : Res α} {n : Nat} {s : State} {a : Word}
    (h : r.RefusedAfter n s a) (f : α → State → Res β) : (r.andThen f).RefusedAfter n s a := by
  obtain ⟨m, he, rfl⟩ := h
  exact ⟨m, he, refuse_andThen _ m f⟩

/-- An instruction ends refused where the operation that it is does. -/
theorem endsRefused_of_exec {i : Instr} {s : State} {key : Opcode} {a : Word} {r : Res Unit}
    (hx : exec i s = finish r) (hr : s.CanPass (gap s key 0) → r.RefusedAfter (gap s key 0) s a) :
    EndsRefused i s key a := by
  intro hp
  obtain ⟨m, he, rfl⟩ := hr hp
  exact ⟨m, he, hx⟩

section
variable {s : State} {g : List Nat} (hp : s.CanPass (g.getD 0 0))
include hp

/-- The internal cycles before a first access change neither the registers nor which addresses refuse: where that
access is refused after them, they are all that passes. -/
theorem pause_andThen_refused {α : Type} {a : Word} (h : s.locate a = .io .cgbVideo) {f : Unit → State → Res α}
    (hf : ∀ m, m.cpu = s.cpu → m.locate a = .io .cgbVideo → f () m = refuse (.refusedCgbVideo a) m) :
    ((pause g 0 s).andThen f).RefusedAfter (g.getD 0 0) s a := by
  obtain ⟨_, m, hm, _, he⟩ := pause_done hp
  rw [hm]
  exact ⟨m, he, hf m he.cpu ((State.locate_io_iff (programSide_params he.program)).2 h)⟩

section
variable {a : Word} (h : s.locate a = .io .cgbVideo)
include h

theorem loadFrom_refused (r : Reg8) : (loadFrom g r a s).RefusedAfter (g.getD 0 0) s a :=
  pause_andThen_refused hp h fun _ _ hm => by rw [readThen_refused hm, refuse_andThen]

theorem storeTo_refused (v : Byte) : (storeTo g a v s).RefusedAfter (g.getD 0 0) s a :=
  pause_andThen_refused hp h fun _ _ hm => writeThen_refused hm g 1 v

theorem storeWord_refused (w : Word) : (storeWord g a w s).RefusedAfter (g.getD 0 0) s a :=
  pause_andThen_refused hp h fun _ _ hm => by rw [writeThen_refused hm, refuse_andThen]

theorem incMem_refused : (incMem g a s).RefusedAfter (g.getD 0 0) s a :=
  pause_andThen_refused hp h fun _ _ hm => by rw [readThen_refused hm, refuse_andThen]

theorem decMem_refused : (decMem g a s).RefusedAfter (g.getD 0 0) s a :=
  pause_andThen_refused hp h fun _ _ hm => by rw [readThen_refused hm, refuse_andThen]

end

theorem readOperand_memHl_refused (h : s.locate s.hl = .io .cgbVideo) :
    (readOperand g .memHl s).RefusedAfter (g.getD 0 0) s s.hl :=
  pause_andThen_refused hp h fun m hcpu hm => by
    dsimp only
    rw [hl_of_cpu_eq hcpu, readThen_refused hm]

theorem popWord_refused (h : s.locate s.cpu.sp = .io .cgbVideo) :
    (popWord g s).RefusedAfter (g.getD 0 0) s s.cpu.sp :=
  pause_andThen_refused hp h fun m hcpu hm => by
    rw [← hcpu] at hm ⊢
    rw [popByte_refused hm, refuse_andThen]

end

/-- An instruction that reads (HL) as its operand ends refused where that read is (R250, R294). -/
theorem endsRefused_of_readOperand {i : Instr} {s : State} {key : Opcode} {f : Byte → State → Res Unit}
    (h : s.locate s.hl = .io .cgbVideo)
    (hx : exec i s = finish ((readOperand (s.gaps key) .memHl s).andThen f)) : EndsRefused i s key s.hl :=
  endsRefused_of_exec hx fun hp => (readOperand_memHl_refused hp h).andThen _

end Sys2Proof.Machine

/-! ## The obligation -/

namespace Sys2Proof.Laws.Refused

open Sys2Proof.Machine Sys2Proof.Claims

/-- Settles O19: each family is one operation, and the operation's first access is the refused one. -/
theorem refusedAccessEndsInstruction : Obligations.RefusedAccessEndsInstruction := by
  intro s a h
  refine ⟨?loadMem, ?store, ?alu, ?rotate, ?bit, ?hl, ?ldMemHlD8, ?ldAMemA16, ?ldMemA16A, ?ldMemA16Sp, ?sp, ?high⟩
  case loadMem =>
    rintro op i dst addr hrow rfl
    exact endsRefused_of_exec (loadMemRows_exec _ hrow s) fun hp => loadFrom_refused hp h dst
  case store =>
    rintro op i addr r hrow rfl
    exact endsRefused_of_exec (storeRows_exec _ hrow s) fun hp => storeTo_refused hp h _
  case alu =>
    rintro op i f hrow rfl
    exact endsRefused_of_readOperand h (aluRows_exec _ hrow s)
  case rotate =>
    rintro op i f hrow rfl
    exact endsRefused_of_readOperand h (rotateRows_exec _ hrow s)
  case bit =>
    rintro op i b hrow rfl
    rcases List.mem_append.1 hrow with hrow | hset
    · rcases List.mem_append.1 hrow with hbit | hres
      · exact endsRefused_of_readOperand h (bitRows_exec _ hbit s)
      · exact endsRefused_of_readOperand h (resRows_exec _ hres s)
    · exact endsRefused_of_readOperand h (setRows_exec _ hset s)
  case hl =>
    rintro op i hrow rfl
    simp only [List.mem_cons, Prod.mk.injEq, List.not_mem_nil, or_false] at hrow
    obtain ⟨rfl, rfl⟩ | ⟨rfl, rfl⟩ | ⟨rfl, rfl⟩ | ⟨rfl, rfl⟩ | ⟨rfl, rfl⟩ | ⟨rfl, rfl⟩ := hrow
    · exact endsRefused_of_exec rfl fun hp => incMem_refused hp h
    · exact endsRefused_of_exec rfl fun hp => decMem_refused hp h
    · exact endsRefused_of_exec rfl fun hp => (loadFrom_refused hp h .a).andThen _
    · exact endsRefused_of_exec rfl fun hp => (loadFrom_refused hp h .a).andThen _
    · exact endsRefused_of_exec rfl fun hp => (storeTo_refused hp h s.cpu.a).andThen _
    · exact endsRefused_of_exec rfl fun hp => (storeTo_refused hp h s.cpu.a).andThen _
  case ldMemHlD8 =>
    rintro v rfl
    exact endsRefused_of_exec rfl fun hp => storeTo_refused hp h v
  case ldAMemA16 => exact endsRefused_of_exec rfl fun hp => loadFrom_refused hp h .a
  case ldMemA16A => exact endsRefused_of_exec rfl fun hp => storeTo_refused hp h s.cpu.a
  case ldMemA16Sp => exact endsRefused_of_exec rfl fun hp => storeWord_refused hp h s.cpu.sp
  case sp =>
    rintro rfl
    refine ⟨endsRefused_of_exec rfl fun hp => (popWord_refused hp h).andThen _,
      endsRefused_of_exec rfl fun hp => ((popWord_refused hp h).andThen _).andThen _, fun op i r hrow => ?_⟩
    exact endsRefused_of_exec (popRows_exec _ hrow s) fun hp => (popWord_refused hp h).andThen _
  case high =>
    rintro n rfl
    rw [highPage_eq] at h ⊢
    exact ⟨endsRefused_of_exec rfl fun hp => loadFrom_refused hp h .a,
      endsRefused_of_exec rfl fun hp => storeTo_refused hp h s.cpu.a⟩

end Sys2Proof.Laws.Refused
end

section
/-! The 16-bit loads and the stack (42_load16_stack.md): the words they make, in the terms of the claims. -/

namespace Sys2Proof.Claims

open Sys2Proof.Machine

@[simp] theorem hiByte_append (hi lo : Byte) : hiByte (hi ++ lo) = hi := hiByte_immWord lo hi

@[simp] theorem loByte_append (hi lo : Byte) : loByte (hi ++ lo) = lo := loByte_immWord lo hi

/-- Reduced modulo 65536, the signed sum is the word added to the sign-extended byte (R148). -/
theorem addSp_value (sp : Word) (e : Byte) : (addSp sp e).value = addSigned sp e := by
  unfold addSigned
  rw [BitVec.ofInt_add, BitVec.ofInt_natCast, BitVec.ofNat_toNat, BitVec.setWidth_eq]
  rfl

theorem addSp_flags_pack (sp : Word) (e : Byte) : (addSp sp e).flags.pack = spFlags sp e :=
  pack_eq false false _ _

theorem loadHlSp_eq (e : Byte) (s : State) :
    loadHlSp e s = withF (s.setReg16 .hl (addSigned s.cpu.sp e)) (spFlags s.cpu.sp e) := by
  unfold loadHlSp
  rw [setFlags_eq, addSp_value, addSp_flags_pack]

/-- A pop takes its word apart into the two bytes it read. -/
theorem Popped.exists_append {g1 g2 : Nat} {w : Word} {s t : State} (h : Popped g1 g2 w s t) :
    ∃ hi lo : Byte, w = hi ++ lo := by
  obtain ⟨_, _, m, _, _, _, hw⟩ := h
  exact ⟨_, _, hw⟩

/-- POP (R235, R236): a pop, then the write of the pair. -/
theorem exec_of_pop {i : Instr} {s : State} {key : Opcode} {r : StackReg}
    (hx : exec i s = finish (pop (s.gaps key) r s)) (h : Live s) (hp : s.Poppable) :
    ∃ w m u, Elapsed (gap s key 0) s m ∧ Popped (gap s key 1) (gap s key 2) w m u ∧ Live u ∧
      exec i s = .next (u.setStackReg r w) := by
  obtain ⟨w, u, hw, hu, m, he, _, hpop⟩ := popWord_done h hp (s.gaps key)
  unfold pop at hx
  rw [hw] at hx
  exact ⟨w, m, u, he, hpop, hu, hx⟩

end Sys2Proof.Claims

/-! ## The obligations -/

namespace Sys2Proof.Laws.Load16

open Sys2Proof.Machine Sys2Proof.Claims

/-- Settles O40: every form is one write of registers and its internal cycles. -/
theorem loadWordForms : Obligations.LoadWordForms := by
  refine ⟨fun op i dst hrow lo hi => ⟨loadWordRows_reads _ hrow lo hi, fun s hs => ?immediate⟩,
    ⟨reads_of_decode rfl rfl fun _ => rfl, fun s hs => ?spHl⟩,
    fun e => ⟨reads_of_decode rfl rfl fun _ => rfl, fun s hs => ?hlSp⟩⟩
  case immediate => exact completes_settle (loadWordRows_exec _ hrow _ s) (setReg16_eq s dst _) hs
  case spHl => exact completes_settle rfl rfl hs
  case hlSp =>
    rw [← loadHlSp_eq]
    exact completes_settle rfl rfl hs

/-- Settles O41: LD (a16),SP is `storeWord`, whose two bytes are those of SP. -/
theorem storeStackPointer : Obligations.StoreStackPointer := by
  refine fun lo hi => ⟨reads_of_decode rfl rfl fun _ => rfl, fun s h hlow hhigh => ?_⟩
  rw [← loByte_eq] at hlow ⊢
  rw [← hiByte_eq] at hhigh ⊢
  obtain ⟨t, hx, ht, m, hfirst, hsecond⟩ := finish_done (storeWord_done h (.main 0x08) hlow hhigh)
  exact ⟨m, t, hx, ht, hfirst, hsecond⟩

/-- Settles O42: every form is `pushWord` of its pair, in which AF reads F masked. -/
theorem pushPair : Obligations.PushPair := by
  refine fun op i r hrow => ⟨pushRows_reads _ hrow, fun s w hw h hp => ?_⟩
  have hpair : w = s.stackReg r := hw.trans (by cases r <;> rfl)
  subst hpair
  obtain ⟨t, hx, ht, m, he, _, hpushed⟩ := finish_done (pushWord_done h hp (s.gaps (.main op)))
  refine ⟨m, t, (pushRows_exec _ hrow s).trans hx, ht, he, ?_, hpushed⟩
  rw [hpushed.cpu, he.cpu]

/-- Settles O43: every form is `popWord` and the write of its pair, in which AF drops the low nibble of F. -/
theorem popPair : Obligations.PopPair := by
  refine fun op i r hrow => ⟨popRows_reads _ hrow, fun s h hp => ?_⟩
  obtain ⟨w, m, u, he, hpop, hu, hx⟩ := exec_of_pop (popRows_exec _ hrow s) h hp
  obtain ⟨hi, lo, rfl⟩ := hpop.exists_append
  refine ⟨hi, lo, m, u, he, hpop, hu, hx.trans ?_⟩
  cases r <;>
    simp [State.setStackReg, State.setReg16, State.setReg8, State.setFlagsByte]

end Sys2Proof.Laws.Load16
end

section
/-! 8-bit arithmetic and logic (43_alu8.md): the operations on A, and INC and DEC of a byte, in the terms of the
claims. -/

namespace Sys2Proof.Claims

open Sys2Proof.Machine

/-! ## The operations on A -/

theorem accumulator_eq (r : ByteResult) (s : State) : accumulator r s = withAF s r.value r.flags.pack :=
  setFlags_eq _ _

/-- Time passes alike whatever A and F hold. -/
theorem elapsed_withAF {n : Nat} {s t : State} (h : Elapsed n s t) (a f : Byte) :
    Elapsed n (withAF s a f) (withAF t a f) :=
  h.setCpu fun c => { c with a := a, f := f }

theorem byte_ofNat_beq_zero (n : Nat) : (BitVec.ofNat 8 n == 0) = (n % 256 == 0) := by
  rw [Bool.eq_iff_iff, beq_iff_eq, beq_iff_eq, ← BitVec.toNat_inj]
  rfl

theorem byte_sub_beq_zero (a v : Byte) : (a - v == 0) = (a == v) := by
  rw [Bool.eq_iff_iff, beq_iff_eq, beq_iff_eq, sub_eq_zero]

theorem byte_xor_beq_zero (a v : Byte) : (a ^^^ v == 0) = (a == v) := by
  rw [Bool.eq_iff_iff, beq_iff_eq, beq_iff_eq]
  exact BitVec.xor_eq_zero_iff

/-- Modulo 256 a difference of bytes is one of numbers, once a multiple of 256 keeps it from going below 0. -/
theorem byte_sub_ofNat (a : Byte) {k j : Nat} (h : k ≤ 256 * j) :
    a - BitVec.ofNat 8 k = BitVec.ofNat 8 (a.toNat + 256 * j - k) := by
  apply BitVec.eq_of_toNat_eq
  simp only [BitVec.toNat_sub, BitVec.toNat_ofNat]
  omega

/-- A sum with carry-in, as ADD and ADC give it (R251, R252). -/
theorem addByte_flags_pack (a v : Byte) (c : Bool) : (addByte a v c).flags.pack =
    flagByte ((a.toNat + v.toNat + c.toNat) % 256 == 0) false
      (a.toNat % 16 + v.toNat % 16 + c.toNat > 0x0F) (a.toNat + v.toNat + c.toNat > 0xFF) := by
  rw [← byte_ofNat_beq_zero]
  exact pack_eq _ _ _ _

/-- Without a borrow-in a difference is the word one, as SUB and CP compute it (R253, R258). -/
theorem subByte_value_noBorrow (a v : Byte) : (subByte a v false).value = a - v := sub_zero (a - v)

/-- With a borrow-in it is SBC's number, reduced modulo 256 (R254). -/
theorem subByte_value (a v : Byte) (c : Bool) :
    (subByte a v c).value = BitVec.ofNat 8 (a.toNat + 512 - v.toNat - c.toNat) := by
  have hborrow : v.toNat + c.toNat ≤ 256 * 2 := by have := v.isLt; have := c.toNat_le; omega
  calc a - v - BitVec.ofNat 8 c.toNat
      = a - BitVec.ofNat 8 (v.toNat + c.toNat) := by
        rw [sub_sub, BitVec.ofNat_add, BitVec.ofNat_toNat, BitVec.setWidth_eq]
    _ = BitVec.ofNat 8 (a.toNat + 256 * 2 - (v.toNat + c.toNat)) := byte_sub_ofNat a hborrow
    _ = BitVec.ofNat 8 (a.toNat + 512 - v.toNat - c.toNat) := by rw [Nat.sub_sub]

theorem subByte_flags_pack (a v : Byte) (c : Bool) : (subByte a v c).flags.pack =
    flagByte ((subByte a v c).value == 0) true
      (a.toNat % 16 < v.toNat % 16 + c.toNat) (a.toNat < v.toNat + c.toNat) :=
  pack_eq _ _ _ _

/-- F of SUB, which CP sets too (R253, R258). -/
theorem subByte_flags_pack_noBorrow (a v : Byte) : (subByte a v false).flags.pack =
    flagByte (a == v) true (a.toNat % 16 < v.toNat % 16) (a.toNat < v.toNat) := by
  rw [subByte_flags_pack, subByte_value_noBorrow, byte_sub_beq_zero]
  rfl

/-- The operations on A are the rules' formulas (R251-R258). -/
theorem aluByte_eq_aluSpec (op : AluOp) (a v : Byte) (c : Bool) :
    ((aluByte op a v c).value, (aluByte op a v c).flags.pack) = aluSpec op a v c := by
  cases op with
  | add => exact Prod.ext rfl (addByte_flags_pack a v false)
  | adc => exact Prod.ext rfl (addByte_flags_pack a v c)
  | sub => exact Prod.ext (subByte_value_noBorrow a v) (subByte_flags_pack_noBorrow a v)
  | sbc =>
    refine Prod.ext (subByte_value a v c) ?_
    show (subByte a v c).flags.pack = _
    rw [subByte_flags_pack, subByte_value, byte_ofNat_beq_zero]
    rfl
  | and => exact Prod.ext rfl (pack_eq _ _ _ _)
  | xor =>
    refine Prod.ext rfl ((pack_eq _ _ _ _).trans ?_)
    rw [byte_xor_beq_zero]
    rfl
  | or => exact Prod.ext rfl (pack_eq _ _ _ _)
  | cp => exact Prod.ext rfl (subByte_flags_pack_noBorrow a v)

theorem accumulator_aluByte (op : AluOp) (v : Byte) (s : State) :
    accumulator (aluByte op s.cpu.a v s.flags.c) s =
      withAF s (aluSpec op s.cpu.a v (cFlag s)).1 (aluSpec op s.cpu.a v (cFlag s)).2 := by
  rw [accumulator_eq, ← aluByte_eq_aluSpec]
  rfl

section
variable {i : Instr} {s : State} {key : Opcode} {op : AluOp}

/-- The operand is read, and A and the carry it meets are those before the read. -/
theorem completesVia_alu {o : Operand8} (hx : exec i s = finish (alu (s.gaps key) op o s))
    (h : OperandReady s key o) :
    CompletesVia i s (gap s key 0) (accessCycles s key o) fun m =>
      withAF m (aluSpec op s.cpu.a (operandValue m o) (cFlag s)).1
        (aluSpec op s.cpu.a (operandValue m o) (cFlag s)).2 := by
  obtain ⟨_, t, hread, m, hsm, hm, rfl, ht, hmt, _, _⟩ := readOperand_done h
  have hcpu : t.cpu = s.cpu := hmt.cpu.trans hsm.cpu
  have hc : cFlag t = cFlag s := congrArg (fun c => c.f.getLsbD 4) hcpu
  unfold alu at hx
  rw [hread, Res.andThen_ok, accumulator_aluByte, hc, hcpu] at hx
  exact ⟨m, _, hsm, hm, hx, fun hl => (ht hl).withCpu _, elapsed_withAF hmt _ _⟩

/-- An immediate takes no access, so that A and F may as well be set before the internal cycles. -/
theorem completes_alu_imm {v : Byte} (hx : exec i s = finish (alu (s.gaps key) op (.imm v) s))
    (h : s.CanPass (gap s key 0)) :
    Completes i s (gap s key 0)
      (withAF s (aluSpec op s.cpu.a v (cFlag s)).1 (aluSpec op s.cpu.a v (cFlag s)).2) := by
  obtain ⟨m, t, hsm, _, hnext, ht, hmt⟩ := completesVia_alu hx ⟨h, fun e => nomatch e⟩
  obtain rfl := hmt.none rfl
  exact ⟨_, hnext, ht, elapsed_withAF hsm _ _⟩

end

/-! ## INC and DEC -/

theorem low_nibble_beq (v : Byte) {n : Nat} (hn : n < 16) :
    (v &&& 0x0F == BitVec.ofNat 8 n) = (v.toNat % 16 == n) := by
  have hand : (v &&& 0x0F).toNat = v.toNat % 16 := Nat.and_two_pow_sub_one_eq_mod v.toNat 4
  have hof : (BitVec.ofNat 8 n).toNat = n := Nat.mod_eq_of_lt (by omega)
  rw [Bool.eq_iff_iff, beq_iff_eq, beq_iff_eq, ← BitVec.toNat_inj, hand, hof]

theorem incHalf_eq (v : Byte) : incHalf v = (v.toNat % 16 == 15) := low_nibble_beq v (by decide)

theorem decHalf_eq (v : Byte) : decHalf v = (v.toNat % 16 == 0) := low_nibble_beq v (by decide)

theorem byte_succ_beq_zero (v : Byte) : (v + 1 == 0) = (v == 0xFF) := by
  rw [Bool.eq_iff_iff, beq_iff_eq, beq_iff_eq]
  exact add_eq_zero_iff_eq_neg

theorem byte_pred_beq_zero (v : Byte) : (v - 1 == 0) = (v == 1) := byte_sub_beq_zero v 1

/-- INC r (R259). -/
theorem incReg_eq (r : Reg8) (s : State) : incReg r s = withF (s.setReg8 r (s.reg8 r + 1))
    (flagByte (s.reg8 r == 0xFF) false ((s.reg8 r).toNat % 16 == 15) (cFlag s)) := by
  rw [← byte_succ_beq_zero, ← incHalf_eq, ← pack_eq, ← setFlags_eq]
  rfl

/-- DEC r (R261). -/
theorem decReg_eq (r : Reg8) (s : State) : decReg r s = withF (s.setReg8 r (s.reg8 r - 1))
    (flagByte (s.reg8 r == 1) true ((s.reg8 r).toNat % 16 == 0) (cFlag s)) := by
  rw [← byte_pred_beq_zero, ← decHalf_eq, ← pack_eq, ← setFlags_eq]
  rfl

theorem withF_setReg8_eq (s : State) (r : Reg8) (v f : Byte) :
    withF (s.setReg8 r v) f = { s with cpu := (withF (s.setReg8 r v) f).cpu } := by cases r <;> rfl

/-- What INC (HL) and DEC (HL) share (R260, R262): the byte at an address goes through `move`, its H is written
before the store, and Z and N are after it. -/
def moveMem (move : Byte → Byte) (half : Byte → Bool) (n : Bool) (g : List Nat) (a : Word)
    (s : State) : Res Unit :=
  (pause g 0 s).andThen fun _ s => (readThen g 1 a s).andThen fun v s =>
    (writeThen g 2 a (move v) (s.setFlags { s.flags with h := half v })).andThen fun _ s =>
      .ok () (s.setFlags { s.flags with z := move v == 0, n })

theorem incMem_eq : incMem = moveMem (· + 1) incHalf false := rfl

theorem decMem_eq : decMem = moveMem (· - 1) decHalf true := rfl

theorem flags_withF_pack (s : State) (f : Flags) : (withF s f.pack).flags = f := Flags.unpack_pack f

theorem flags_of_cpu_eq {s t : State} (h : t.cpu = s.cpu) : t.flags = s.flags := by
  unfold State.flags
  rw [h]

/-- The store keeps H as it was written before it, so that F ends with all four flags of the byte moved. -/
theorem moveMem_done {s : State} (h : Live s) {move : Byte → Byte} {a : Word}
    (hs : s.Storable a (move (s.peek a))) (half : Byte → Bool) (n : Bool) (key : Opcode) :
    (moveMem move half n (s.gaps key) a s).Done fun _ u => Live u ∧ ∃ m x w f, Elapsed (gap s key 0) s m ∧
      ReadAt (gap s key 1) a m x ∧ Stored (1 + gap s key 2) a (move (m.peek a)) (withF x f) w ∧
      u = withF w (flagByte (move (m.peek a) == 0) n (half (m.peek a)) (cFlag s)) := by
  unfold moveMem
  refine (pause_live h _ 0).andThen fun _ m ⟨hm, hsm⟩ => ?_
  refine (readThen_at hm (hs.1.elapsed hsm) _ 1).andThen fun v x ⟨hv, hx, hread⟩ => ?_
  subst hv
  rw [setFlags_eq]
  have hlive : ∀ f, Live (withF x f) := fun _ => hx.withCpu _
  have hstore : ∀ f, (withF x f).Storable a (move (m.peek a)) := fun _ =>
    ((hs.elapsed_peek hsm).elapsed hread.elapsed).of_params rfl
  refine (writeThen_live (hlive _) (hstore _) _ 2).andThen fun _ w ⟨hw, hst⟩ => ?_
  rw [setFlags_eq]
  refine Res.done_ok ⟨hw.withCpu _, m, x, w, _, hsm, hread, hst, ?_⟩
  have hflags : w.flags = { x.flags with h := half (m.peek a) } :=
    (flags_of_cpu_eq hst.cpu).trans (flags_withF_pack x _)
  have hc : x.flags.c = cFlag s := congrArg Flags.c (flags_of_cpu_eq (hread.elapsed.cpu.trans hsm.cpu))
  rw [pack_eq, hflags, hc]

/-! ## DAA and CPL -/

/-- DAA's two digits of correction do not overlap: together they are a number (R263). -/
theorem daa_correction (low high : Bool) : ((if low then 0x06 else 0x00) ||| (if high then 0x60 else 0x00) : Byte) =
    BitVec.ofNat 8 (0x06 * low.toNat + 0x60 * high.toNat) := by
  cases low <;> cases high <;> rfl

theorem byte_add_ofNat (a : Byte) (k : Nat) : a + BitVec.ofNat 8 k = BitVec.ofNat 8 (a.toNat + k) := by
  rw [BitVec.ofNat_add, BitVec.ofNat_toNat, BitVec.setWidth_eq]

theorem byte_not_eq (a : Byte) : ~~~a = BitVec.ofNat 8 (255 - a.toNat) := by
  apply BitVec.eq_of_toNat_eq
  rw [BitVec.toNat_not, BitVec.toNat_ofNat]
  omega

/-- DAA (R263): the correction as a number, subtracted after a subtraction and added otherwise. -/
theorem daaByte_value (a : Byte) (f : Flags) {low high : Bool} {adj : Nat}
    (hlow : low = (f.h || (!f.n && decide (a.toNat % 16 > 9))))
    (hhigh : high = (f.c || (!f.n && decide (a.toNat > 0x99))))
    (hadj : adj = 0x06 * low.toNat + 0x60 * high.toNat) :
    (daaByte a f).value = BitVec.ofNat 8 (if f.n then a.toNat + 256 - adj else a.toNat + adj) := by
  have hle : adj ≤ 256 * 1 := by have := low.toNat_le; have := high.toNat_le; omega
  unfold daaByte
  dsimp only
  rw [← hlow, ← hhigh, daa_correction, ← hadj]
  cases f.n with
  | true => exact byte_sub_ofNat a hle
  | false => exact byte_add_ofNat a adj

theorem daaByte_flags_pack (a : Byte) (f : Flags) : (daaByte a f).flags.pack =
    flagByte ((daaByte a f).value == 0) f.n false (f.c || (!f.n && decide (a.toNat > 0x99))) :=
  pack_eq _ _ _ _

end Sys2Proof.Claims

/-! ## The obligations -/

namespace Sys2Proof.Laws.Alu8

open Sys2Proof.Machine Sys2Proof.Claims

/-- Settles O44: every form is `alu` of its operation, whose results are the rules' formulas. -/
theorem addAndSubtract : Obligations.AddAndSubtract :=
  ⟨fun _ _ _ _ hrow _ => ⟨aluRows_reads _ hrow, fun s hs => completesVia_alu (aluRows_exec _ hrow s) hs⟩,
    fun _ _ _ hrow _ v => ⟨aluImmRows_reads _ hrow v, fun s hs =>
      completes_alu_imm (aluImmRows_exec _ hrow v s) hs⟩⟩

/-- Settles O45: every form is `alu` of its operation, whose results are the rules' formulas. -/
theorem bitwiseLogic : Obligations.BitwiseLogic :=
  ⟨fun _ _ _ _ hrow _ => ⟨aluRows_reads _ hrow, fun s hs => completesVia_alu (aluRows_exec _ hrow s) hs⟩,
    fun _ _ _ hrow _ v => ⟨aluImmRows_reads _ hrow v, fun s hs =>
      completes_alu_imm (aluImmRows_exec _ hrow v s) hs⟩⟩

/-- Settles O46: every form is `incReg` or `decReg` and its internal cycles. -/
theorem incDecRegister : Obligations.IncDecRegister := by
  refine ⟨fun op i r hrow => ⟨incRows_reads _ hrow, fun s hs => ?inc⟩,
    fun op i r hrow => ⟨decRows_reads _ hrow, fun s hs => ?dec⟩⟩
  case inc =>
    exact completes_settle ((incRows_exec _ hrow s).trans (by rw [incReg_eq])) (withF_setReg8_eq s r _ _) hs
  case dec =>
    exact completes_settle ((decRows_exec _ hrow s).trans (by rw [decReg_eq])) (withF_setReg8_eq s r _ _) hs

/-- Settles O47: both are `moveMem` at HL, and the byte moved is 0 where the byte read was 0xFF or 1. -/
theorem incDecMemory : Obligations.IncDecMemory := by
  refine ⟨⟨reads_of_decode rfl rfl fun _ => rfl, fun s h hs => ?inc⟩,
    ⟨reads_of_decode rfl rfl fun _ => rfl, fun s h hs => ?dec⟩⟩
  case inc =>
    obtain ⟨u, hx, hu, m, x, w, f, he, hread, hst, rfl⟩ :=
      finish_done (moveMem_done (move := (· + 1)) h hs incHalf false (.main 0x34))
    refine ⟨m, x, w, _, f, hx, hu, he, hread, hst, ?_⟩
    rw [byte_succ_beq_zero, incHalf_eq]
  case dec =>
    obtain ⟨u, hx, hu, m, x, w, f, he, hread, hst, rfl⟩ :=
      finish_done (moveMem_done (move := (· - 1)) h hs decHalf true (.main 0x35))
    refine ⟨m, x, w, _, f, hx, hu, he, hread, hst, ?_⟩
    rw [byte_pred_beq_zero, decHalf_eq]

/-- Settles O48: each is one write of A and F, or of F, and its internal cycles. -/
theorem accumulatorFlags : Obligations.AccumulatorFlags := by
  refine ⟨⟨reads_of_decode rfl rfl fun _ => rfl, fun s low high adj r hs hlow hhigh hadj hr => ?daa⟩,
    ⟨reads_of_decode rfl rfl fun _ => rfl, fun s hs => ?cpl⟩,
    ⟨reads_of_decode rfl rfl fun _ => rfl, fun s hs => ?scf⟩,
    ⟨reads_of_decode rfl rfl fun _ => rfl, fun s hs => ?ccf⟩⟩
  case daa =>
    have hvalue : (daaByte s.cpu.a s.flags).value = r :=
      (daaByte_value s.cpu.a s.flags hlow hhigh hadj).trans hr.symm
    have hdaa : accumulator (daaByte s.cpu.a s.flags) s =
        withAF s r (flagByte (r == 0) (nFlag s) false high) := by
      rw [accumulator_eq, daaByte_flags_pack, hvalue, hhigh]
      rfl
    rw [← hdaa]
    exact completes_settle rfl rfl hs
  case cpl =>
    rw [← byte_not_eq, ← pack_eq]
    exact completes_settle (congrArg (fun s' => finish (settle _ s')) (accumulator_eq _ s)) rfl hs
  case scf =>
    rw [← pack_eq, ← setFlags_eq]
    exact completes_settle rfl rfl hs
  case ccf =>
    rw [← pack_eq, ← setFlags_eq]
    exact completes_settle rfl rfl hs

end Sys2Proof.Laws.Alu8
end

section
/-! 16-bit arithmetic (44_alu16.md): ADD HL,rr and ADD SP,e8 in the terms of the claims. -/

namespace Sys2Proof.Claims

open Sys2Proof.Machine

theorem addWord_flags_pack (hl v : Word) (z : Bool) : (addWord hl v z).flags.pack =
    flagByte z false (hl.toNat % 4096 + v.toNat % 4096 > 0x0FFF) (hl.toNat + v.toNat > 0xFFFF) :=
  pack_eq _ _ _ _

/-- ADD HL,rr (R282): Z is the flag as it was before, which the write of HL does not touch. -/
theorem addHl_eq (v : Word) (s : State) : addHl v s = withF (s.setReg16 .hl (hlAddress s + v))
    (flagByte (zFlag s) false ((hlAddress s).toNat % 4096 + v.toNat % 4096 > 0x0FFF)
      ((hlAddress s).toNat + v.toNat > 0xFFFF)) := by
  rw [← addWord_flags_pack, ← setFlags_eq]
  rfl

/-- ADD SP,e8 (R283). -/
theorem addToSp_eq (e : Byte) (s : State) :
    addToSp e s = withF (s.setReg16 .sp (addSigned s.cpu.sp e)) (spFlags s.cpu.sp e) := by
  rw [← addSp_value, ← addSp_flags_pack, ← setFlags_eq]
  rfl

end Sys2Proof.Claims

/-! ## The obligation -/

namespace Sys2Proof.Laws.Alu16

open Sys2Proof.Machine Sys2Proof.Claims

/-- Settles O49: every form is one write of a pair, with F for the additions, and its internal cycles. -/
theorem wordArithmetic : Obligations.WordArithmetic := by
  refine ⟨fun op i r hrow => ⟨incWordRows_reads _ hrow, fun s hs => ?inc⟩,
    fun op i r hrow => ⟨decWordRows_reads _ hrow, fun s hs => ?dec⟩,
    fun op i r hrow => ⟨addHlRows_reads _ hrow, fun s hs => ?addHl⟩,
    fun e => ⟨reads_of_decode rfl rfl fun _ => rfl, fun s hs => ?addSp⟩⟩
  case inc => exact completes_settle (incWordRows_exec _ hrow s) (setReg16_eq s r _) hs
  case dec => exact completes_settle (decWordRows_exec _ hrow s) (setReg16_eq s r _) hs
  case addHl =>
    rw [← addHl_eq]
    exact completes_settle (addHlRows_exec _ hrow s) rfl hs
  case addSp =>
    rw [← addToSp_eq]
    exact completes_settle rfl rfl hs

end Sys2Proof.Laws.Alu16
end

section
/-! Rotates, shifts and bit operations (45_rotate_shift_bit.md): the results as numbers, and the operations in the
terms of the claims. -/

namespace Sys2Proof.Claims

open Sys2Proof.Machine

/-! ## Bits and shifts of a byte as numbers -/

theorem byte_ofNat_congr {x y : Nat} (h : x % 256 = y % 256) : BitVec.ofNat 8 x = BitVec.ofNat 8 y :=
  BitVec.eq_of_toNat_eq h

theorem bitOf_eq (v : Byte) (b : Nat) : bitOf v b = (v.getLsbD b).toNat :=
  (Nat.toNat_testBit v.toNat b).symm

theorem getLsbD_zero_eq (v : Byte) : v.getLsbD 0 = (v.toNat % 2 == 1) :=
  Nat.testBit_zero v.toNat

theorem getLsbD_seven_eq (v : Byte) : v.getLsbD 7 = (v.toNat / 128 == 1) := by
  have htop : v.toNat / 128 < 2 := Nat.div_lt_of_lt_mul v.isLt
  rw [← Nat.mod_eq_of_lt htop]
  exact Nat.testBit_eq_decide_div_mod_eq

theorem byte_shiftRight_eq (v : Byte) (k : Nat) : v >>> k = BitVec.ofNat 8 (v.toNat / 2 ^ k) := by
  apply BitVec.eq_of_toNat_eq
  rw [BitVec.toNat_ushiftRight, Nat.shiftRight_eq_div_pow, BitVec.toNat_ofNat,
    Nat.mod_eq_of_lt ((Nat.div_le_self _ _).trans_lt v.isLt)]

theorem byte_shiftLeft_eq (v : Byte) (k : Nat) : v <<< k = BitVec.ofNat 8 (v.toNat <<< k) :=
  BitVec.eq_of_toNat_eq BitVec.toNat_shiftLeft

/-- What is or-ed into the bits that a shift left has cleared is added to the shifted number. -/
theorem byte_shiftLeft_or (v : Byte) {k m : Nat} (hm : m < 2 ^ k) :
    v <<< k ||| BitVec.ofNat 8 m = BitVec.ofNat 8 (2 ^ k * v.toNat + m) := by
  rw [byte_shiftLeft_eq, ← BitVec.ofNat_or, ← Nat.shiftLeft_add_eq_or_of_lt hm, Nat.shiftLeft_eq, Nat.mul_comm]

/-- A byte shifted right, and the low bit of another in bit 7. -/
theorem byte_shiftRight_or (v w : Byte) :
    v >>> 1 ||| w <<< 7 = BitVec.ofNat 8 (v.toNat / 2 + 128 * (w.toNat % 2)) :=
  calc v >>> 1 ||| w <<< 7
      = w <<< 7 ||| BitVec.ofNat 8 (v.toNat / 2) := by rw [BitVec.or_comm, byte_shiftRight_eq, Nat.pow_one]
    _ = BitVec.ofNat 8 (2 ^ 7 * w.toNat + v.toNat / 2) := byte_shiftLeft_or w (Nat.div_lt_of_lt_mul v.isLt)
    _ = BitVec.ofNat 8 (v.toNat / 2 + 128 * (w.toNat % 2)) := byte_ofNat_congr (by omega)

/-- Bit 7 alone, which SRA keeps (R300). -/
theorem byte_and_top_bit (v : Byte) : v &&& 0x80#8 = v >>> 7 <<< 7 :=
  (BitVec.shiftLeft_ushiftRight (x := v) (n := 7)).symm

/-! ## Rotates and shifts -/

/-- The result byte is the rules' number (R295-R302). -/
theorem rotByte_value (op : RotOp) (v : Byte) (c : Bool) : (rotByte op v c).1 = (rotSpec op v c).1 := by
  have htop : v.toNat / 128 < 2 := Nat.div_lt_of_lt_mul v.isLt
  have hhigh : v.toNat / 16 < 16 := Nat.div_lt_of_lt_mul v.isLt
  cases op with
  | rlc =>
    show v <<< 1 ||| v >>> 7 = _
    rw [byte_shiftRight_eq]
    exact byte_shiftLeft_or v htop
  | rrc => exact byte_shiftRight_or v v
  | rl => exact byte_shiftLeft_or v c.toNat_lt
  | rr =>
    refine (byte_shiftRight_or v _).trans ?_
    rw [BitVec.toNat_ofNat]
    exact byte_ofNat_congr (by have := c.toNat_lt; omega)
  | sla => exact (byte_shiftLeft_eq v 1).trans (byte_ofNat_congr (by omega))
  | sra =>
    show v >>> 1 ||| v &&& 0x80#8 = _
    rw [byte_and_top_bit, byte_shiftRight_or, byte_shiftRight_eq, BitVec.toNat_ofNat]
    exact byte_ofNat_congr (by omega)
  | swap =>
    show v <<< 4 ||| v >>> 4 = _
    rw [byte_shiftRight_eq, byte_shiftLeft_or v hhigh]
    exact byte_ofNat_congr (by omega)
  | srl => exact byte_shiftRight_eq v 1

/-- The bit that leaves is bit 7 on the way left, bit 0 on the way right, and none of SWAP (R295-R302). -/
theorem rotByte_out (op : RotOp) (v : Byte) (c : Bool) : (rotByte op v c).2 = (rotSpec op v c).2 := by
  cases op with
  | rlc | rl | sla => exact getLsbD_seven_eq v
  | rrc | rr | sra | srl => exact getLsbD_zero_eq v
  | swap => rfl

theorem rotByte_eq_rotSpec (op : RotOp) (v : Byte) (c : Bool) : rotByte op v c = rotSpec op v c :=
  Prod.ext (rotByte_value op v c) (rotByte_out op v c)

theorem rotFlags_pack (r : Byte) (out : Bool) : (rotFlags r out).pack = flagByte (r == 0) false false out :=
  pack_eq _ _ _ _

/-- RLCA, RRCA, RLA and RRA (R290-R293). -/
theorem rotateA_eq (op : RotOp) (s : State) : rotateA op s = withAF s (rotSpec op s.cpu.a (cFlag s)).1
    (flagByte false false false (rotSpec op s.cpu.a (cFlag s)).2) := by
  rw [← rotByte_eq_rotSpec, ← pack_eq]
  exact setFlags_eq _ _

/-! ## Single bits -/

theorem bitOf_mul_le (v : Byte) (b : Nat) : bitOf v b * 2 ^ b ≤ v.toNat :=
  calc bitOf v b * 2 ^ b ≤ v.toNat / 2 ^ b * 2 ^ b := Nat.mul_le_mul_right _ (Nat.mod_le _ _)
    _ ≤ v.toNat := Nat.div_mul_le_self _ _

theorem one_shiftLeft_eq (b : Nat) : 1#8 <<< b = BitVec.ofNat 8 (2 ^ b) :=
  (byte_shiftLeft_eq 1#8 b).trans (congrArg _ (Nat.one_shiftLeft b))

theorem byte_and_bit (v : Byte) (b : Nat) : v &&& 1#8 <<< b = BitVec.ofNat 8 (bitOf v b * 2 ^ b) := by
  rw [← BitVec.twoPow_eq, BitVec.and_twoPow, BitVec.twoPow_eq, one_shiftLeft_eq, bitOf_eq]
  cases v.getLsbD b <;> simp

/-- Clearing bits subtracts those that were set. -/
theorem byte_and_not (v m : Byte) : v &&& ~~~m = v - (v &&& m) := by
  have hdisjoint : (v &&& ~~~m) &&& (v &&& m) = 0#8 := by ext i; simp +contextual
  rw [eq_sub_iff_add_eq, BitVec.add_eq_or_of_and_eq_zero _ _ hdisjoint]
  ext i
  simp [← Bool.and_or_distrib_left]

/-- Setting bits adds them once they are clear. -/
theorem byte_or_eq (v m : Byte) : v ||| m = (v &&& ~~~m) + m := by
  have hdisjoint : (v &&& ~~~m) &&& m = 0#8 := by ext i; simp +contextual
  rw [BitVec.add_eq_or_of_and_eq_zero _ _ hdisjoint]
  ext i
  simp [Bool.or_and_distrib_right]

/-- A bit's number survives its field of three bits (R141). -/
theorem bitField_toNat {b : Nat} (hb : b < 8) : (BitVec.ofNat 3 b).toNat = b := Nat.mod_eq_of_lt hb

theorem byte_and_not_bit (v : Byte) (b : Nat) : v &&& ~~~(1#8 <<< b) = resSpec b v := by
  have hle := bitOf_mul_le v b
  rw [byte_and_not, byte_and_bit, resSpec, ← BitVec.ofNat_sub_ofNat_of_le _ _ (hle.trans_lt v.isLt) hle,
    BitVec.ofNat_toNat, BitVec.setWidth_eq]

/-- RES as a number (R304). -/
theorem resBit_eq_resSpec {b : Nat} (hb : b < 8) : resBit (BitVec.ofNat 3 b) = resSpec b := by
  funext v
  rw [resBit, bitField_toNat hb, byte_and_not_bit]

/-- The bit's weight, taken away if the bit was set and added back, is added if the bit was clear. -/
theorem bit_weight_add (v : Byte) (b : Nat) :
    v.toNat - bitOf v b * 2 ^ b + 2 ^ b = v.toNat + (1 - bitOf v b) * 2 ^ b := by
  have hle := bitOf_mul_le v b
  obtain h | h : bitOf v b = 0 ∨ bitOf v b = 1 := Nat.mod_two_eq_zero_or_one _
  · rw [h, Nat.zero_mul, Nat.sub_zero, Nat.sub_zero, Nat.one_mul]
  · rw [h, Nat.one_mul] at hle
    rw [h, Nat.sub_self, Nat.zero_mul, Nat.one_mul, Nat.sub_add_cancel hle, Nat.add_zero]

/-- SET as a number (R305). -/
theorem setBit_eq_setSpec {b : Nat} (hb : b < 8) : setBit (BitVec.ofNat 3 b) = setSpec b := by
  funext v
  rw [setBit, bitField_toNat hb, byte_or_eq, byte_and_not_bit, one_shiftLeft_eq, resSpec, ← BitVec.ofNat_add,
    bit_weight_add, setSpec]

theorem not_getLsbD_eq (v : Byte) (b : Nat) : (!v.getLsbD b) = (bitOf v b == 0) := by
  rw [bitOf_eq]
  cases v.getLsbD b <;> rfl

/-! ## The operations on an operand -/

/-- An operand to which a result can be written (R294): not an immediate. -/
def isDestination : Operand8 → Bool
  | .imm _ => false
  | _ => true

theorem ne_imm_of_isDestination {o : Operand8} (h : isDestination o = true) (v : Byte) : o ≠ .imm v := by
  rintro rfl
  exact Bool.false_ne_true h

theorem rotateRows_isDestination : ∀ x ∈ rotateRows, isDestination x.2.2.2 = true := by decide

theorem bitRows_bit_lt : ∀ x ∈ bitRows, x.2.2.1 < 8 := by decide

theorem resRows_bit_lt : ∀ x ∈ resRows, x.2.2.1 < 8 := by decide

theorem resRows_isDestination : ∀ x ∈ resRows, isDestination x.2.2.2 = true := by decide

theorem setRows_bit_lt : ∀ x ∈ setRows, x.2.2.1 < 8 := by decide

theorem setRows_isDestination : ∀ x ∈ setRows, isDestination x.2.2.2 = true := by decide

theorem cFlag_of_cpu_eq {s t : State} (h : t.cpu = s.cpu) : t.flags.c = cFlag s :=
  congrArg Flags.c (flags_of_cpu_eq h)

/-- Time passes alike whatever F holds. -/
theorem elapsed_withF {n : Nat} {s t : State} (h : Elapsed n s t) (f : Byte) :
    Elapsed n (withF s f) (withF t f) :=
  h.setCpu fun c => { c with f := f }

section
variable {i : Instr} {s : State} {key : Opcode} {o : Operand8}

/-- A rotate or shift (R294-R302): the carry it meets is the one before the read. -/
theorem exec_of_rotate {op : RotOp} (hx : exec i s = finish (rotate (s.gaps key) op o s))
    (ho : isDestination o = true) (h : ResultReady s key o (rotSpec op (operandValue s o) (cFlag s)).1) :
    ∃ m u, Elapsed (gap s key 0) s m ∧
      ResultWritten (gap s key 1) (gap s key 2) o (rotSpec op (operandValue m o) (cFlag s)).1 m u ∧
      (Live s → Live u) ∧
      exec i s = .next (withF u (flagByte ((rotSpec op (operandValue m o) (cFlag s)).1 == 0) false false
        (rotSpec op (operandValue m o) (cFlag s)).2)) := by
  obtain ⟨m, w, u, hread, hsm, hcpu, hwrite, hres, hu⟩ :=
    readWrite_done (f := fun v => (rotSpec op v (cFlag s)).1) (ne_imm_of_isDestination ho) h
  refine ⟨m, u, hsm, hres, hu, ?_⟩
  unfold rotate at hx
  dsimp only at hx
  rw [hread, Res.andThen_ok, cFlag_of_cpu_eq hcpu, rotByte_eq_rotSpec, hwrite, Res.andThen_ok,
    setFlags_eq, rotFlags_pack] at hx
  exact hx

/-- BIT (R303): C is kept as it was before the read. -/
theorem completesVia_testBit {b : BitVec 3} (hx : exec i s = finish (testBit (s.gaps key) b o s))
    (h : OperandReady s key o) :
    CompletesVia i s (gap s key 0) (accessCycles s key o) fun m =>
      withF m (flagByte (bitOf (operandValue m o) b.toNat == 0) false true (cFlag s)) := by
  obtain ⟨_, t, hread, m, hsm, hm, rfl, ht, hmt, _, _⟩ := readOperand_done h
  unfold testBit at hx
  rw [hread, Res.andThen_ok, cFlag_of_cpu_eq (hmt.cpu.trans hsm.cpu), setFlags_eq, pack_eq,
    not_getLsbD_eq] at hx
  exact ⟨m, _, hsm, hm, hx, fun hl => (ht hl).withCpu _, elapsed_withF hmt _⟩

/-- RES and SET (R304, R305): a read, and the write of what the byte becomes. -/
theorem exec_of_modify {f : Byte → Byte} (hx : exec i s = finish (Machine.modify (s.gaps key) f o s))
    (ho : isDestination o = true) (h : ResultReady s key o (f (operandValue s o))) :
    ∃ m u, Elapsed (gap s key 0) s m ∧
      ResultWritten (gap s key 1) (gap s key 2) o (f (operandValue m o)) m u ∧ (Live s → Live u) ∧
      exec i s = .next u := by
  obtain ⟨m, w, u, hread, hsm, _, hwrite, hres, hu⟩ := readWrite_done (ne_imm_of_isDestination ho) h
  refine ⟨m, u, hsm, hres, hu, ?_⟩
  unfold Machine.modify at hx
  rw [hx, hread, Res.andThen_ok, hwrite]
  rfl

end

end Sys2Proof.Claims

/-! ## The obligations -/

namespace Sys2Proof.Laws.RotateShiftBit

open Sys2Proof.Machine Sys2Proof.Claims

/-- Settles O50: every form is `rotateA` and its internal cycles. -/
theorem rotateAccumulator : Obligations.RotateAccumulator := by
  refine fun op i f hrow => ⟨rotateARows_reads _ hrow, fun s hs => ?_⟩
  rw [← rotateA_eq]
  exact completes_settle (rotateARows_exec _ hrow s) rfl hs

/-- Settles O51: every form is `rotate` of its operation, whose results are the rules' numbers. -/
theorem rotateOperand : Obligations.RotateOperand :=
  fun _ _ _ _ hrow => ⟨rotateRows_reads _ hrow, fun s hs =>
    exec_of_rotate (rotateRows_exec _ hrow s) (rotateRows_isDestination _ hrow) hs⟩

/-- Settles O52: every form is `testBit` of its bit. -/
theorem testBit : Obligations.TestBit := by
  refine fun op i b o hrow => ⟨bitRows_reads _ hrow, fun s hs => ?_⟩
  have hvia := completesVia_testBit (bitRows_exec _ hrow s) hs
  rwa [bitField_toNat (bitRows_bit_lt _ hrow)] at hvia

/-- Settles O53: every form is `modify` by its bit's `resBit` or `setBit`, which are the rules' numbers. -/
theorem resetAndSetBit : Obligations.ResetAndSetBit := by
  refine ⟨fun op i b o hrow => ⟨resRows_reads _ hrow, fun s hs => ?res⟩,
    fun op i b o hrow => ⟨setRows_reads _ hrow, fun s hs => ?set⟩⟩
  case res =>
    have hx := (resRows_exec _ hrow s).trans (by rw [resBit_eq_resSpec (resRows_bit_lt _ hrow)])
    exact exec_of_modify hx (resRows_isDestination _ hrow) hs
  case set =>
    have hx := (setRows_exec _ hrow s).trans (by rw [setBit_eq_setSpec (setRows_bit_lt _ hrow)])
    exact exec_of_modify hx (setRows_isDestination _ hrow) hs

end Sys2Proof.Laws.RotateShiftBit
end

section
/-! Control transfer (46_control.md): the jumps, calls and returns, taken and not taken, in the terms of the claims. -/

namespace Sys2Proof.Claims

open Sys2Proof.Machine

theorem elapsed_setPc {n : Nat} {s t : State} (h : Elapsed n s t) (a : Word) : Elapsed n (s.setPc a) (t.setPc a) :=
  h.setCpu fun c => { c with pc := a }

theorem live_setPc {s : State} (h : Live s) (a : Word) : Live (s.setPc a) := h.withCpu _

/-- The target of JR (R324), by the sum LD HL,SP+e8 makes too. -/
theorem add_sext_eq_addSigned (a : Word) (e : Byte) : a + sext e = addSigned a e := addSp_value a e

section
variable {i : Instr} {s : State} {key : Opcode}

/-! ## Conditions -/

section
variable {cc : Cond} {r : Res Unit} (hx : exec i s = finish (if s.cond cc then r else notTaken (s.cycleLine key) s))
include hx

theorem exec_of_condHolds (h : condHolds s cc) : exec i s = finish r := by
  rwa [if_pos ((condHolds_iff s cc).1 h)] at hx

theorem completes_of_not_condHolds (h : ¬condHolds s cc) (hp : s.CanPass (gapNotTaken s key)) :
    Completes i s (gapNotTaken s key) s := by
  rw [if_neg (mt (condHolds_iff s cc).2 h)] at hx
  exact completes_notTaken hx hp

end

/-! ## Jumps, calls and returns -/

theorem completes_jump {a : Word} (hx : exec i s = finish (jump (s.gaps key) a s)) (hp : s.CanPass (gap s key 0)) :
    Completes i s (gap s key 0) (s.setPc a) := by
  obtain ⟨_, t, ht, hlive, he⟩ := pause_done (g := s.gaps key) (k := 0) hp
  unfold jump at hx
  rw [ht] at hx
  exact ⟨t.setPc a, hx, fun h => live_setPc (hlive h) a, elapsed_setPc he a⟩

/-- A relative jump counts from PC after the internal cycles, which leave it alone (R324). -/
theorem completes_jumpRelative {e : Byte} (hx : exec i s = finish (jumpRelative (s.gaps key) e s))
    (hp : s.CanPass (gap s key 0)) : Completes i s (gap s key 0) (s.setPc (addSigned s.cpu.pc e)) := by
  obtain ⟨_, t, ht, hlive, he⟩ := pause_done (g := s.gaps key) (k := 0) hp
  unfold jumpRelative at hx
  rw [ht, Res.andThen_ok, he.cpu, add_sext_eq_addSigned] at hx
  exact ⟨t.setPc _, hx, fun h => live_setPc (hlive h) _, elapsed_setPc he _⟩

/-- CALL and RST (R326, R331): a push of PC, then the write of PC. -/
theorem exec_of_call {a : Word} (hx : exec i s = finish (call (s.gaps key) a s)) (h : Live s)
    (hp : s.Pushable s.cpu.pc) :
    ∃ m u, Elapsed (gap s key 0) s m ∧ Pushed (gap s key 1) (gap s key 2) s.cpu.pc m u ∧ Live u ∧
      exec i s = .next (u.setPc a) := by
  obtain ⟨_, u, hpush, hu, m, he, _, hpushed⟩ := pushWord_done h hp (s.gaps key)
  unfold call at hx
  rw [hpush] at hx
  exact ⟨m, u, he, hpushed, hu, hx⟩

/-- The common part of the returns (R328-R330): a pop, then the write of PC. -/
theorem returnPop_done (h : Live s) (hp : s.Poppable) (key : Opcode) :
    ∃ m w u, Elapsed (gap s key 0) s m ∧ Popped (gap s key 1) (gap s key 2) w m u ∧ Live u ∧
      returnPop (s.gaps key) s = .ok () (u.setPc w) := by
  obtain ⟨w, u, hpop, hu, m, he, _, hpopped⟩ := popWord_done h hp (s.gaps key)
  refine ⟨m, w, u, he, hpopped, hu, ?_⟩
  unfold returnPop
  rw [hpop, Res.andThen_ok]

theorem exec_of_returnPop (hx : exec i s = finish (returnPop (s.gaps key) s)) (h : Live s) (hp : s.Poppable) :
    ∃ m w u, Elapsed (gap s key 0) s m ∧ Popped (gap s key 1) (gap s key 2) w m u ∧ Live u ∧
      exec i s = .next (u.setPc w) := by
  obtain ⟨m, w, u, he, hpopped, hu, hret⟩ := returnPop_done h hp key
  rw [hret] at hx
  exact ⟨m, w, u, he, hpopped, hu, hx⟩

end

end Sys2Proof.Claims

/-! ## The obligations -/

namespace Sys2Proof.Laws.Control

open Sys2Proof.Machine Sys2Proof.Claims

/-- Settles O54: the taken forms are `jump` or `jumpRelative`, JP HL is one write of PC. -/
theorem jumpsReachTarget : Obligations.JumpsReachTarget := by
  refine ⟨fun lo hi => ⟨reads_of_decode rfl rfl fun _ => rfl, fun s hs => ?jp⟩,
    fun op i cc hrow lo hi => ⟨jumpIfRows_reads _ hrow lo hi, fun s => ⟨fun hcc hs => ?jpTaken, ?jpNotTaken⟩⟩,
    ⟨reads_of_decode rfl rfl fun _ => rfl, fun s hs => ?jpHl⟩,
    fun e => ⟨reads_of_decode rfl rfl fun _ => rfl, fun s hs => ?jr⟩,
    fun op i cc hrow e => ⟨jumpRelIfRows_reads _ hrow e, fun s => ⟨fun hcc hs => ?jrTaken, ?jrNotTaken⟩⟩⟩
  case jp => exact completes_jump rfl hs
  case jpTaken => exact completes_jump (exec_of_condHolds (jumpIfRows_exec _ hrow _ s) hcc) hs
  case jpNotTaken => exact completes_of_not_condHolds (jumpIfRows_exec _ hrow _ s)
  case jpHl => exact completes_settle rfl rfl hs
  case jr => exact completes_jumpRelative rfl hs
  case jrTaken => exact completes_jumpRelative (exec_of_condHolds (jumpRelIfRows_exec _ hrow e s) hcc) hs
  case jrNotTaken => exact completes_of_not_condHolds (jumpRelIfRows_exec _ hrow e s)

/-- Settles O55: the taken forms are `call` of their target. -/
theorem callsPushReturn : Obligations.CallsPushReturn := by
  refine ⟨fun lo hi => ⟨reads_of_decode rfl rfl fun _ => rfl, fun s h hp => ?call⟩,
    fun op i cc hrow lo hi => ⟨callIfRows_reads _ hrow lo hi, fun s => ⟨fun hcc h hp => ?taken, ?notTaken⟩⟩,
    fun op i v hrow => ⟨rstRows_reads _ hrow, fun s h hp => ?rst⟩⟩
  case call => exact exec_of_call rfl h hp
  case taken => exact exec_of_call (exec_of_condHolds (callIfRows_exec _ hrow _ s) hcc) h hp
  case notTaken => exact completes_of_not_condHolds (callIfRows_exec _ hrow _ s)
  case rst => exact exec_of_call (rstRows_exec _ hrow s) h hp

/-- Settles O56: the taken forms are `returnPop`, after which RETI sets IME. -/
theorem returnsPopPc : Obligations.ReturnsPopPc := by
  refine ⟨⟨reads_of_decode rfl rfl fun _ => rfl, fun s h hp => ?ret⟩,
    fun op i cc hrow => ⟨retIfRows_reads _ hrow, fun s => ⟨fun hcc h hp => ?taken, ?notTaken⟩⟩,
    ⟨reads_of_decode rfl rfl fun _ => rfl, fun s h hp => ?reti⟩⟩
  case ret => exact exec_of_returnPop rfl h hp
  case taken => exact exec_of_returnPop (exec_of_condHolds (retIfRows_exec _ hrow s) hcc) h hp
  case notTaken => exact completes_of_not_condHolds (retIfRows_exec _ hrow s)
  case reti =>
    obtain ⟨m, w, u, he, hpopped, hu, hret⟩ := returnPop_done h hp (.main 0xD9)
    refine ⟨m, w, u, he, hpopped, hu, ?_⟩
    show finish ((returnPop (s.gaps (.main 0xD9)) s).andThen fun _ t => .ok () (enableNow t)) = _
    rw [hret]
    rfl

end Sys2Proof.Laws.Control
end

section
/-! The system instructions (47_misc_system.md): the step of an instruction that is its opcode alone, whether it
completes and the step ends, or it stops the machine. -/

namespace Sys2Proof.Claims

open Sys2Proof.Machine

section
variable {s : State} {op : Byte} {i : Instr} {left : List Byte} (h : Live s) (hawake : s.cpu.halted = false)
  (hb : s.HoldsBytes s.cpu.pc [op]) (hn : fetchedAfterOpcode op = 0) (hd : decode [op] = .ok (i, left))
include h hawake hb hn hd

/-- An instruction that is its opcode alone is fetched in one machine cycle, PC past it, and run (R180, R181). -/
theorem step_of_opcode : ∃ t, Live t ∧ Elapsed 1 (s.setPc (s.cpu.pc + 1)) t ∧ step s = afterExec (exec i t) := by
  obtain ⟨t, hf, ht, he⟩ := fetch_live h hb hn hd
  exact ⟨t, ht, he, step_of_fetch h.running hawake hf⟩

/-- One that only changes the CPU and passes its internal cycles ends its step with that change, of the state
that as many machine cycles of the devices leave (R180, R189). -/
theorem step_of_settle {f : Cpu → Cpu}
    (hx : ∀ t, exec i t = finish (settle (t.gaps (.main op)) { t with cpu := f t.cpu })) :
    ∃ u, Elapsed (1 + gap s (.main op) 0) (s.setPc (s.cpu.pc + 1)) u ∧
      step s = finish (endOfStep { u with cpu := f { s.cpu with pc := s.cpu.pc + 1 } }) := by
  obtain ⟨t, ht, he, hstep⟩ := step_of_opcode h hawake hb hn hd
  obtain ⟨v, hv, hlive, hev⟩ := completes_settle (hx t) rfl (ht.canPass _)
  rw [gap_elapsed he] at hev
  have hcpu : f { s.cpu with pc := s.cpu.pc + 1 } = v.cpu := (congrArg f he.cpu).symm.trans hev.cpu.symm
  refine ⟨{ v with cpu := t.cpu }, he.trans (hev.withCpu t.cpu), ?_⟩
  rw [hstep, hv, afterExec_running (hlive ht).running, hcpu]

/-- One that stops the machine, with a status that tells its address, has no end of the step (R180). -/
theorem step_of_stops {status : Word → Status} (hstop : ∀ a, status a ≠ .running)
    (hx : ∀ t : State, exec i t = .next { t with status := status (t.cpu.pc - 1) }) :
    ∃ u, Elapsed 1 (s.setPc (s.cpu.pc + 1)) u ∧ step s = .next { u with status := status s.cpu.pc } := by
  obtain ⟨t, -, he, hstep⟩ := step_of_opcode h hawake hb hn hd
  have hpc : t.cpu.pc - 1 = s.cpu.pc := by
    rw [he.cpu]
    exact BitVec.add_sub_cancel _ _
  refine ⟨t, he, ?_⟩
  rw [hstep, hx, afterExec_stopped (hstop _), hpc]

end

/-- An illegal opcode is fetched alone (R155). -/
theorem illegalRows_fetchedAfterOpcode : ∀ x ∈ illegalRows, fetchedAfterOpcode x.1 = 0 := by decide

/-- Each row faults the machine with its opcode and its address (R345). -/
theorem illegalRows_exec : ∀ x ∈ illegalRows, ∀ s : State,
    exec x.2 s = .next { s with status := .faulted (.illegalOpcode x.1 (s.cpu.pc - 1)) } := by
  intro x hrow
  fin_cases hrow
  all_goals exact fun _ => rfl

end Sys2Proof.Claims

/-! ## The obligations -/

namespace Sys2Proof.Laws.System

open Sys2Proof.Machine Sys2Proof.Claims

/-- Settles O10: both steps change the CPU alone. EI's ends with IME clear and the enable pending, DI's with both
clear, so that neither dispatches. -/
theorem enableLatency : Obligations.EnableLatency := by
  refine fun s h hawake => ⟨fun hime hb => ?ei, fun hb => ?di⟩
  case ei =>
    obtain ⟨u, he, hstep⟩ := step_of_settle (i := .ei) (f := fun c => { c with imePending := true })
      h hawake hb rfl rfl fun _ => rfl
    refine ⟨u, he, hstep.trans (congrArg finish (endOfStep_of_pending ?_ rfl))⟩
    exact hime
  case di =>
    obtain ⟨u, he, hstep⟩ := step_of_settle (i := .di) (f := fun c => { c with ime := false, imePending := false })
      h hawake hb rfl rfl fun _ => rfl
    exact ⟨u, he, hstep.trans (congrArg finish (endOfStep_of_disabled rfl rfl))⟩

/-- Settles O57: each is one change of the CPU, NOP none, and its internal cycles. -/
theorem systemInstructions : Obligations.SystemInstructions := by
  refine ⟨⟨reads_of_decode rfl rfl fun _ => rfl, fun s hs => ?nop⟩,
    ⟨reads_of_decode rfl rfl fun _ => rfl, fun s hs => ?halt⟩,
    ⟨reads_of_decode rfl rfl fun _ => rfl, fun s hs => ?di⟩,
    ⟨reads_of_decode rfl rfl fun _ => rfl, fun s hs => ?ei⟩⟩
  all_goals exact completes_settle rfl rfl hs

/-- Settles O59: `exec` refuses the machine, and the status alone decides the later steps. -/
theorem stopIsRefused : Obligations.StopIsRefused :=
  ⟨fun _ => ⟨rfl, step_of_refused rfl⟩, fun _ h hawake hb =>
    step_of_stops (i := .stop) (status := fun a => .refused (.refusedStop a)) h hawake hb rfl rfl nofun fun _ => rfl⟩

/-- Settles O60: by its row `exec` faults the machine, and the status alone decides the later steps. -/
theorem illegalOpcodeFaults : Obligations.IllegalOpcodeFaults := by
  intro op i hrow
  have hreads := illegalRows_reads _ hrow
  have hexec := illegalRows_exec _ hrow
  refine ⟨hreads, fun s => ⟨hexec s, step_of_faulted rfl⟩, fun s h hawake hb => ?_⟩
  exact step_of_stops (status := fun a => .faulted (.illegalOpcode op a)) h hawake hb
    (illegalRows_fetchedAfterOpcode _ hrow) (hreads.decodes []) nofun hexec

end Sys2Proof.Laws.System
end

section
/-! The invariant (10_state.md, R577): every operation that an instruction is made of keeps a sound machine sound
wherever it goes on, so does every instruction, and the end of a step leaves no enable of interrupts pending. -/

namespace Sys2Proof.Machine

/-! ## The operations -/

section
variable {s : State} (h : Sound s)
include h

theorem Sound.setPc (a : Word) : Sound (s.setPc a) := h.withCpu _ h.flagsLow

theorem Sound.setStackReg (r : StackReg) (v : Word) : Sound (s.setStackReg r v) := by
  cases r with
  | bc => exact h.setReg16 .bc v
  | de => exact h.setReg16 .de v
  | hl => exact h.setReg16 .hl v
  | af => exact (h.setReg8 .a _).setFlagsByte _

theorem accumulator_sound (r : ByteResult) : Sound (accumulator r s) := (h.setReg8 .a _).setFlags _

theorem loadFrom_sound (g : List Nat) (r : Reg8) (a : Word) : (loadFrom g r a s).Sat fun _ t => Sound t :=
  (pause_sound h g 0).andThen fun _ _ hm => (readThen_sound hm g 1 a).andThen fun v _ ht => ht.setReg8 r v

theorem storeTo_sound (g : List Nat) (a : Word) (v : Byte) : (storeTo g a v s).Sat fun _ t => Sound t :=
  (pause_sound h g 0).andThen fun _ _ hm => writeThen_sound hm g 1 a v

theorem bumpHl_sound (w : Word) (u : Unit) : (bumpHl w u s).Sat fun _ t => Sound t := h.setReg16 .hl _

theorem storeWord_sound (g : List Nat) (a v : Word) : (storeWord g a v s).Sat fun _ t => Sound t :=
  (pause_sound h g 0).andThen fun _ _ hm => (writeThen_sound hm g 1 a _).andThen fun _ _ ht =>
    writeThen_sound ht g 2 _ _

theorem pop_sound (g : List Nat) (r : StackReg) : (pop g r s).Sat fun _ t => Sound t :=
  (popWord_sound h g).andThen fun v _ ht => ht.setStackReg r v

theorem alu_sound (g : List Nat) (op : AluOp) (o : Operand8) : (alu g op o s).Sat fun _ t => Sound t :=
  (readOperand_sound h g o).andThen fun _ _ ht => accumulator_sound ht _

theorem incMem_sound (g : List Nat) (a : Word) : (incMem g a s).Sat fun _ t => Sound t :=
  (pause_sound h g 0).andThen fun _ _ hm => (readThen_sound hm g 1 a).andThen fun _ _ ht =>
    (writeThen_sound (ht.setFlags _) g 2 a _).andThen fun _ _ hu => hu.setFlags _

theorem decMem_sound (g : List Nat) (a : Word) : (decMem g a s).Sat fun _ t => Sound t :=
  (pause_sound h g 0).andThen fun _ _ hm => (readThen_sound hm g 1 a).andThen fun _ _ ht =>
    (writeThen_sound (ht.setFlags _) g 2 a _).andThen fun _ _ hu => hu.setFlags _

theorem notTaken_sound (line : CycleLine) : (notTaken line s).Sat fun _ t => Sound t := idles_sound _ h

theorem jump_sound (g : List Nat) (a : Word) : (jump g a s).Sat fun _ t => Sound t :=
  (pause_sound h g 0).andThen fun _ _ ht => ht.setPc a

theorem jumpRelative_sound (g : List Nat) (e : Byte) : (jumpRelative g e s).Sat fun _ t => Sound t :=
  (pause_sound h g 0).andThen fun _ _ ht => ht.setPc _

theorem call_sound (g : List Nat) (a : Word) : (call g a s).Sat fun _ t => Sound t :=
  (pushWord_sound h g _).andThen fun _ _ ht => ht.setPc a

theorem returnPop_sound (g : List Nat) : (returnPop g s).Sat fun _ t => Sound t :=
  (popWord_sound h g).andThen fun _ _ ht => ht.setPc _

/-- A conditional instruction: its effect, or the not-taken internal cycles alone (R188). -/
theorem taken_sound {r : Res Unit} (hr : r.Sat fun _ t => Sound t) (line : CycleLine) (taken : Bool) :
    (if taken then r else notTaken line s).Sat fun _ t => Sound t := by
  split
  · exact hr
  · exact notTaken_sound h line

theorem rotate_sound (g : List Nat) (op : RotOp) (o : Operand8) : (rotate g op o s).Sat fun _ t => Sound t :=
  (readOperand_sound h g o).andThen fun _ _ ht => (writeOperand_sound ht g o _).andThen fun _ _ hu => hu.setFlags _

theorem testBit_sound (g : List Nat) (b : BitVec 3) (o : Operand8) : (testBit g b o s).Sat fun _ t => Sound t :=
  (readOperand_sound h g o).andThen fun _ _ ht => ht.setFlags _

theorem modify_sound (g : List Nat) (f : Byte → Byte) (o : Operand8) : (modify g f o s).Sat fun _ t => Sound t :=
  (readOperand_sound h g o).andThen fun _ _ ht => writeOperand_sound ht g o _

theorem executeCb_sound (op2 : Byte) : (executeCb op2 s).Sat fun _ t => Sound t := by
  unfold executeCb
  dsimp only
  split
  case h_1 => exact rotate_sound h _ _ _
  case h_2 => exact testBit_sound h _ _ _
  case h_3 => exact modify_sound h _ _ _
  case h_4 => exact modify_sound h _ _ _

end

/-! ## The instructions -/

/-- Wherever the instruction goes on from a sound machine, it leaves a sound one. -/
def KeepsSound (i : Instr) : Prop :=
  ∀ s, Sound s → ∃ r, exec i s = finish r ∧ r.Sat fun _ t => Sound t

theorem keepsSound_of_cb {i : Instr} {op2 : Byte} (hwf : i.wf = true) (he : encode i = [0xCB, op2]) :
    KeepsSound i := fun s h =>
  ⟨_, exec_of_cbMap (cbMap_of_decode (he ▸ decode_encode_self hwf)) s, executeCb_sound h op2⟩

/-- Every instruction keeps a sound machine sound, by the constructors of `Instr`: it is one operation, or a change
of the registers and the internal cycles after it. -/
theorem keepsSound (i : Instr) : KeepsSound i := by
  cases i
  case stop => exact fun _ _ => ⟨_, rfl, sat_refuse _ _ _⟩
  case illegalD3 | illegalDB | illegalDD | illegalE3 | illegalE4 | illegalEB | illegalEC | illegalED | illegalF4
      | illegalFC | illegalFD =>
    exact fun _ _ => ⟨_, rfl, sat_raise _ _ _⟩
  case nop => exact fun _ h => ⟨_, rfl, settle_sound h _⟩
  case ldBB | ldBC | ldBD | ldBE | ldBH | ldBL | ldBA | ldCB | ldCC | ldCD | ldCE | ldCH | ldCL | ldCA
      | ldDB | ldDC | ldDD | ldDE | ldDH | ldDL | ldDA | ldEB | ldEC | ldED | ldEE | ldEH | ldEL | ldEA
      | ldHB | ldHC | ldHD | ldHE | ldHH | ldHL | ldHA | ldLB | ldLC | ldLD | ldLE | ldLH | ldLL | ldLA
      | ldAB | ldAC | ldAD | ldAE | ldAH | ldAL | ldAA
      | ldBD8 | ldCD8 | ldDD8 | ldED8 | ldHD8 | ldLD8 | ldAD8 =>
    exact fun _ h => ⟨_, rfl, settle_sound (h.setReg8 _ _) _⟩
  case ldBcD16 | ldDeD16 | ldHlD16 | ldSpD16 | incBc | incDe | incHl | incSp | decBc | decDe | decHl | decSp =>
    exact fun _ h => ⟨_, rfl, settle_sound (h.setReg16 _ _) _⟩
  case ldSpHl | jpHl | halt | di | ei =>
    refine fun _ h => ⟨_, rfl, settle_sound (h.withCpu _ ?_) _⟩
    exact h.flagsLow
  case ldHlSpE8 | addHlBc | addHlDe | addHlHl | addHlSp =>
    exact fun _ h => ⟨_, rfl, settle_sound ((h.setReg16 .hl _).setFlags _) _⟩
  case addSpE8 => exact fun _ h => ⟨_, rfl, settle_sound ((h.setReg16 .sp _).setFlags _) _⟩
  case incB | incC | incD | incE | incH | incL | incA | decB | decC | decD | decE | decH | decL | decA
      | rlca | rrca | rla | rra | daa | cpl =>
    exact fun _ h => ⟨_, rfl, settle_sound ((h.setReg8 _ _).setFlags _) _⟩
  case scf | ccf => exact fun _ h => ⟨_, rfl, settle_sound (h.setFlags _) _⟩
  case ldBMemHl | ldCMemHl | ldDMemHl | ldEMemHl | ldHMemHl | ldLMemHl | ldAMemHl | ldAMemBc | ldAMemDe | ldAMemC
      | ldhAMemA8 | ldAMemA16 =>
    exact fun _ h => ⟨_, rfl, loadFrom_sound h _ _ _⟩
  case ldAMemHlInc | ldAMemHlDec =>
    exact fun _ h => ⟨_, rfl, (loadFrom_sound h _ _ _).andThen fun u _ ht => bumpHl_sound ht _ u⟩
  case ldMemHlB | ldMemHlC | ldMemHlD | ldMemHlE | ldMemHlH | ldMemHlL | ldMemHlA | ldMemHlD8 | ldMemBcA
      | ldMemDeA | ldMemCA | ldhMemA8A | ldMemA16A =>
    exact fun _ h => ⟨_, rfl, storeTo_sound h _ _ _⟩
  case ldMemHlIncA | ldMemHlDecA =>
    exact fun _ h => ⟨_, rfl, (storeTo_sound h _ _ _).andThen fun u _ ht => bumpHl_sound ht _ u⟩
  case ldMemA16Sp => exact fun _ h => ⟨_, rfl, storeWord_sound h _ _ _⟩
  case pushBc | pushDe | pushHl | pushAf => exact fun _ h => ⟨_, rfl, pushWord_sound h _ _⟩
  case popBc | popDe | popHl | popAf => exact fun _ h => ⟨_, rfl, pop_sound h _ _⟩
  case addAB | addAC | addAD | addAE | addAH | addAL | addAMemHl | addAA | addAD8
      | adcAB | adcAC | adcAD | adcAE | adcAH | adcAL | adcAMemHl | adcAA | adcAD8
      | subAB | subAC | subAD | subAE | subAH | subAL | subAMemHl | subAA | subAD8
      | sbcAB | sbcAC | sbcAD | sbcAE | sbcAH | sbcAL | sbcAMemHl | sbcAA | sbcAD8
      | andAB | andAC | andAD | andAE | andAH | andAL | andAMemHl | andAA | andAD8
      | xorAB | xorAC | xorAD | xorAE | xorAH | xorAL | xorAMemHl | xorAA | xorAD8
      | orAB | orAC | orAD | orAE | orAH | orAL | orAMemHl | orAA | orAD8
      | cpAB | cpAC | cpAD | cpAE | cpAH | cpAL | cpAMemHl | cpAA | cpAD8 =>
    exact fun _ h => ⟨_, rfl, alu_sound h _ _ _⟩
  case incMemHl => exact fun _ h => ⟨_, rfl, incMem_sound h _ _⟩
  case decMemHl => exact fun _ h => ⟨_, rfl, decMem_sound h _ _⟩
  case jpA16 => exact fun _ h => ⟨_, rfl, jump_sound h _ _⟩
  case jrE8 => exact fun _ h => ⟨_, rfl, jumpRelative_sound h _ _⟩
  case callA16 | rst00 | rst08 | rst10 | rst18 | rst20 | rst28 | rst30 | rst38 =>
    exact fun _ h => ⟨_, rfl, call_sound h _ _⟩
  case ret => exact fun _ h => ⟨_, rfl, returnPop_sound h _⟩
  case reti =>
    exact fun _ h => ⟨_, rfl, (returnPop_sound h _).andThen fun _ _ ht => ht.withCpu _ ht.flagsLow⟩
  case jpNzA16 | jpZA16 | jpNcA16 | jpCA16 =>
    exact fun _ h => ⟨_, rfl, taken_sound h (jump_sound h _ _) _ _⟩
  case jrNzE8 | jrZE8 | jrNcE8 | jrCE8 =>
    exact fun _ h => ⟨_, rfl, taken_sound h (jumpRelative_sound h _ _) _ _⟩
  case callNzA16 | callZA16 | callNcA16 | callCA16 =>
    exact fun _ h => ⟨_, rfl, taken_sound h (call_sound h _ _) _ _⟩
  case retNz | retZ | retNc | retC =>
    exact fun _ h => ⟨_, rfl, taken_sound h (returnPop_sound h _) _ _⟩
  case prefixCb =>
    exact fun _ h => ⟨_, rfl, (pause_sound h _ 0).andThen fun _ _ hm => (imm8_sound hm).andThen fun op2 _ ht =>
      executeCb_sound ht op2⟩
  -- what is left is the 0xCB page
  all_goals exact keepsSound_of_cb rfl rfl

/-! ## The step -/

theorem fetchBytes_sound : ∀ (g : List Nat) (n : Nat) {s : State}, Sound s →
    (fetchBytes g n s).Sat fun _ t => Sound t
  | _, 0, _, h => h
  | g, n + 1, _, h =>
    (pause_sound h g 0).andThen fun _ _ hm => (imm8_sound hm).andThen fun _ _ ht =>
      (fetchBytes_sound g.tail n ht).andThen fun _ _ hu => hu

theorem fetch_sound {s : State} (h : Sound s) : (fetch s).Sat fun _ t => Sound t := by
  refine (imm8_sound h).andThen fun op t ht => (fetchBytes_sound _ _ ht).andThen fun rest u hu => ?_
  split
  · exact hu
  · exact sat_raise _ _ _

/-- The end of a step leaves no enable of interrupts pending (R577), whether it dispatches, enables, or does
neither. -/
theorem endOfStep_inv {s : State} (h : Sound s) :
    (endOfStep s).Sat fun _ t => Sound t ∧ t.cpu.imePending = false := by
  cases hime : s.cpu.ime with
  | true =>
    rw [endOfStep_of_ime hime]
    exact (dispatch_sound h).andThen fun _ _ ht => ⟨ht.withCpu _ ht.flagsLow, rfl⟩
  | false =>
    cases hp : s.cpu.imePending with
    | true =>
      rw [endOfStep_of_pending hime hp]
      exact ⟨h.withCpu _ h.flagsLow, rfl⟩
    | false =>
      rw [endOfStep_of_disabled hime hp]
      exact ⟨h, hp⟩

/-- What a part keeps wherever it goes on holds of the host's next state, if the machine still runs there. -/
theorem Res.Sat.of_finish {r : Res Unit} {P : State → Prop} {t : State} (h : r.Sat fun _ t => P t)
    (ht : finish r = .next t) (hrun : t.status = .running) : P t := by
  cases r with
  | ok _ u =>
    cases ht
    exact h
  | stop u =>
    cases ht
    exact absurd hrun h

theorem haltedStep_sound {s : State} (h : Sound s) : (haltedStep s).Sat fun _ t => Sound t := by
  refine (idle_sound h).andThen fun _ t ht => ?_
  split
  · exact ht
  · exact ht.withCpu _ ht.flagsLow

/-- An instruction and the end of its step (R180): a machine that the instruction stopped is asked nothing. -/
theorem afterExec_inv {i : Instr} {s t : State} (h : Sound s) (ht : afterExec (exec i s) = .next t) : Inv t := by
  obtain ⟨r, hx, hr⟩ := keepsSound i s h
  obtain ⟨u, hu⟩ := exists_finish r
  rw [hx, hu] at ht
  by_cases hrun : u.status = .running
  · rw [afterExec_running hrun] at ht
    exact (endOfStep_inv (hr.of_finish hu hrun)).of_finish ht
  · rw [afterExec_stopped hrun] at ht
    cases ht
    exact fun h => absurd h hrun

/-- A fetch that stops the machine is all of its step (R180). -/
theorem step_of_fetch_stop {s u : State} (hs : s.status = .running) (h : s.cpu.halted = false)
    (hf : fetch s = .stop u) : step s = .next u := by
  unfold step
  rw [hs, h, hf]
  rfl

end Sys2Proof.Machine

/-! ## The obligation -/

namespace Sys2Proof.Laws.Invariant

open Sys2Proof.Machine

/-- Settles O13: a halted machine's step is its cycle and the end of the step; an awake one's is the fetch, the
instruction and the end of the step. Each part keeps the machine sound wherever it goes on. -/
theorem stepKeepsInv : Obligations.StepKeepsInv := by
  intro s t hinv hstep
  cases hs : s.status with
  | faulted f => cases (step_of_faulted hs).symm.trans hstep
  | refused r => cases (step_of_refused hs).symm.trans hstep
  | running =>
    obtain ⟨h, -⟩ := hinv hs
    cases hhalted : s.cpu.halted with
    | true =>
      rw [step_of_halted hs hhalted] at hstep
      exact ((haltedStep_sound h).andThen fun _ _ ht => endOfStep_inv ht).of_finish hstep
    | false =>
      have hfetch := fetch_sound h
      cases hf : fetch s with
      | ok i u =>
        rw [hf] at hfetch
        rw [step_of_fetch hs hhalted hf] at hstep
        exact afterExec_inv hfetch hstep
      | stop u =>
        rw [hf] at hfetch
        cases (step_of_fetch_stop hs hhalted hf).symm.trans hstep
        exact fun hrun => absurd hrun hfetch

end Sys2Proof.Laws.Invariant
end

section
/-! The registers of the I/O block (20_memory.md R87): each is read as its value and written by its own write, and
the bit fields among them as numbers. -/

namespace Sys2Proof.Machine

/-! ## Access by offset -/

/-- A register that both modes have: a read gives its value and changes nothing, a write is its own (R87). -/
theorem bus_ioBoth (s : State) {n : Nat} {r : IoReg} (h : (n, r) ∈ ioBoth) (v : Byte) :
    busRead (BitVec.ofNat 16 (0xFF00 + n)) s = .ok (ioValue s (BitVec.ofNat 16 (0xFF00 + n)) r) s ∧
      busWrite (BitVec.ofNat 16 (0xFF00 + n)) v s = ioWrite (BitVec.ofNat 16 (0xFF00 + n)) v s r := by
  have hr := (by decide : ∀ c ∈ ioBoth, c.2 ≠ .cgbVideo ∧ c.2 ≠ .unhandled) _ h
  exact ⟨busRead_io (s.locate_ioBoth h) hr.1 hr.2, busWrite_io (s.locate_ioBoth h) v⟩

/-- A register of CGB mode other than the colour-mode video registers, in that mode (R87). -/
theorem bus_ioCgb {s : State} (hm : s.params.mode = .cgb) {n : Nat} {r : IoReg} (h : (n, r) ∈ ioCgb)
    (hr : r ≠ .cgbVideo) (v : Byte) :
    busRead (BitVec.ofNat 16 (0xFF00 + n)) s = .ok (ioValue s (BitVec.ofNat 16 (0xFF00 + n)) r) s ∧
      busWrite (BitVec.ofNat 16 (0xFF00 + n)) v s = ioWrite (BitVec.ofNat 16 (0xFF00 + n)) v s r := by
  have hu := (by decide : ∀ c ∈ ioCgb, c.2 ≠ .unhandled) _ h
  exact ⟨busRead_io (s.locate_ioCgb h hr hm) hr hu, busWrite_io (s.locate_ioCgb h hr hm) v⟩

/-- A register of the sound device (R87). -/
theorem bus_sound (s : State) {n : Nat} (h : 0x10 ≤ n ∧ n ≤ 0x3F) (v : Byte) :
    busRead (BitVec.ofNat 16 (0xFF00 + n)) s = .ok (ioValue s (BitVec.ofNat 16 (0xFF00 + n)) .sound) s ∧
      busWrite (BitVec.ofNat 16 (0xFF00 + n)) v s = ioWrite (BitVec.ofNat 16 (0xFF00 + n)) v s .sound := by
  have hloc : s.locate (BitVec.ofNat 16 (0xFF00 + n)) = .io .sound :=
    (s.locate_io (by omega)).trans (congrArg Location.io (if_pos h))
  exact ⟨busRead_io hloc nofun nofun, busWrite_io hloc v⟩

/-! ## Bit fields as numbers -/

/-- A three-bit register reads with its unused bits set (R447, R83). -/
theorem unusedSet_3 (x : BitVec 3) : 0xF8 ||| x.setWidth 8 = BitVec.ofNat 8 (0xF8 + x.toNat) := by
  revert x
  decide

/-- The five request bits read with the unused bits set (R402). -/
theorem unusedSet_5 (x : BitVec 5) : 0xE0 ||| x.setWidth 8 = BitVec.ofNat 8 (0xE0 + x.toNat) := by
  revert x
  decide

theorem setWidth_setWidth_5 (v : Byte) : (v.setWidth 5).setWidth 8 = v &&& 0x1F := by
  apply BitVec.eq_of_toNat_eq
  rw [BitVec.toNat_and, show (0x1F : Byte).toNat = 2 ^ 5 - 1 from rfl, Nat.and_two_pow_sub_one_eq_mod]
  simp only [BitVec.toNat_setWidth]
  omega

/-- STAT as read (R492): bit 7 set, the enables in bits 6-3, the coincidence in bit 2, the mode in bits 1-0. -/
theorem statByte_eq (l : Lcd) : statByte l = BitVec.ofNat 8 (0x80 + 8 * l.statEnables.toNat +
    4 * l.coincidence.toNat + l.mode.number.toNat) := by
  have h : ∀ (e : BitVec 4) (c : Bool) (m : PpuMode),
      0x80 ||| (e.setWidth 8 <<< 3) ||| ((BitVec.ofBool c).setWidth 8 <<< 2) ||| m.number =
        BitVec.ofNat 8 (0x80 + 8 * e.toNat + 4 * c.toNat + m.number.toNat) := by
    intro e c m
    cases m <;> revert e c <;> decide
  exact h _ _ _

/-- HDMA5 as read (R477): bit 7 says that no transfer is active, the others the blocks left less one. -/
theorem hdma5Byte_toNat (h : Hdma) :
    (hdma5Byte h).toNat = (if h.active then 0 else 128) + (h.remaining / 16 + 127) % 128 := by
  have hlow : ((BitVec.ofNat 8 (h.remaining / 16) - 1) &&& 0x7F).toNat = (h.remaining / 16 + 127) % 128 := by
    rw [BitVec.toNat_and, show (0x7F : Byte).toNat = 2 ^ 7 - 1 from rfl, Nat.and_two_pow_sub_one_eq_mod,
      BitVec.toNat_sub, BitVec.toNat_ofNat, show (1 : Byte).toNat = 1 from rfl]
    omega
  unfold hdma5Byte
  rw [BitVec.toNat_or, hlow]
  cases h.active with
  | true => simp
  | false =>
    have hor := Nat.two_pow_add_eq_or_of_lt
      (show (h.remaining / 16 + 127) % 128 < 2 ^ 7 from Nat.mod_lt _ (by decide)) 1
    exact hor.symm

end Sys2Proof.Machine

/-! ## The obligations -/

namespace Sys2Proof.Laws.Registers

open Sys2Proof.Machine

/-- Settles O20: IE is its own address, IF a register of both modes. -/
theorem interruptRegisters : Obligations.InterruptRegisters := by
  intro s v
  have hie := bus_of_locate s.locate_ie nofun v
  have hif := fun s => bus_ioBoth s (n := 0x0F) (r := .ifr) (by decide) v
  refine ⟨hie.2, hie.1, ⟨_, (hif s).2, BitVec.toNat_setWidth .., rfl, ?peek⟩, ?read⟩
  case peek =>
    exact (State.peek_ioBoth _ (n := 0x0F) (r := .ifr) (by decide)).trans
      (congrArg (0xE0 ||| ·) (setWidth_setWidth_5 v))
  case read => exact (hif s).1.trans (congrArg (Res.ok · s) (unusedSet_5 _))

/-- Settles O21: four registers of both modes. -/
theorem timerRegisters : Obligations.TimerRegisters := by
  intro s v
  have hdiv := bus_ioBoth s (n := 0x04) (r := .div) (by decide) v
  have htima := bus_ioBoth s (n := 0x05) (r := .tima) (by decide) v
  have htma := bus_ioBoth s (n := 0x06) (r := .tma) (by decide) v
  have htac := bus_ioBoth s (n := 0x07) (r := .tac) (by decide) v
  exact ⟨hdiv.1.trans (congrArg (Res.ok · s) (hiByte_eq _)), hdiv.2, htima.1, htima.2, htma.1, htma.2,
    htac.1.trans (congrArg (Res.ok · s) (unusedSet_3 _)), _, htac.2, BitVec.toNat_setWidth .., rfl⟩

/-- Settles O22: twelve registers of both modes. -/
theorem lcdRegisters : Obligations.LcdRegisters := by
  intro s v
  have hstat := bus_ioBoth s (n := 0x41) (r := .stat) (by decide) v
  refine ⟨bus_ioBoth s (n := 0x40) (r := .lcdc) (by decide) v,
    hstat.1.trans (congrArg (Res.ok · s) (statByte_eq _)), ⟨_, hstat.2, ?enables, rfl⟩,
    bus_ioBoth s (n := 0x42) (r := .scy) (by decide) v, bus_ioBoth s (n := 0x43) (r := .scx) (by decide) v,
    bus_ioBoth s (n := 0x44) (r := .ly) (by decide) v, bus_ioBoth s (n := 0x45) (r := .lyc) (by decide) v,
    bus_ioBoth s (n := 0x47) (r := .bgp) (by decide) v, bus_ioBoth s (n := 0x48) (r := .obp0) (by decide) v,
    bus_ioBoth s (n := 0x49) (r := .obp1) (by decide) v, bus_ioBoth s (n := 0x4A) (r := .wy) (by decide) v,
    bus_ioBoth s (n := 0x4B) (r := .wx) (by decide) v⟩
  case enables =>
    show (v.extractLsb' 3 4).toNat = v.toNat / 8 % 16
    rw [BitVec.extractLsb'_toNat, Nat.shiftRight_eq_div_pow]

/-- Settles O25: the write starts the transfer whatever `dma` held, and the register reads back what it holds. -/
theorem oamDmaStart : Obligations.OamDmaStart := by
  intro s v
  have hdma := fun s => bus_ioBoth s (n := 0x46) (r := .dma) (by decide) v
  exact ⟨_, (hdma s).2, rfl, (hdma _).1⟩

/-- Settles O29: the devices' registers are those of both modes and the sound range; the others are of CGB mode. -/
theorem deviceAndColourRegisters : Obligations.DeviceAndColourRegisters := by
  intro s v
  refine ⟨bus_ioBoth s (n := 0x00) (r := .joypad) (by decide) v, fun a ha => ?serial, fun a hlow hhigh => ?sound,
    fun hm => ⟨fun n hlow hhigh => ?hdma, ?hdma1, ?hdma2, ?hdma3, ?hdma4, ⟨_, ?hdma5, hdma5Byte_toNat _⟩, ?svbk⟩⟩
  case serial =>
    rcases ha with rfl | rfl
    · exact bus_ioBoth s (n := 0x01) (r := .serial) (by decide) v
    · exact bus_ioBoth s (n := 0x02) (r := .serial) (by decide) v
  case sound =>
    obtain ⟨n, hn⟩ := Nat.exists_eq_add_of_le (Nat.le_trans (by decide : 0xFF00 ≤ 0xFF10) hlow)
    have ha : a = BitVec.ofNat 16 (0xFF00 + n) := by rw [← hn, BitVec.ofNat_toNat, BitVec.setWidth_eq]
    subst ha
    exact bus_sound s (by omega) v
  case hdma =>
    obtain rfl | rfl | rfl | rfl : n = 0x51 ∨ n = 0x52 ∨ n = 0x53 ∨ n = 0x54 := by omega
    · exact (bus_ioCgb hm (r := .hdma1) (by decide) nofun v).1
    · exact (bus_ioCgb hm (r := .hdma2) (by decide) nofun v).1
    · exact (bus_ioCgb hm (r := .hdma3) (by decide) nofun v).1
    · exact (bus_ioCgb hm (r := .hdma4) (by decide) nofun v).1
  case hdma1 => exact (bus_ioCgb hm (n := 0x51) (r := .hdma1) (by decide) nofun v).2
  case hdma2 => exact (bus_ioCgb hm (n := 0x52) (r := .hdma2) (by decide) nofun v).2
  case hdma3 => exact (bus_ioCgb hm (n := 0x53) (r := .hdma3) (by decide) nofun v).2
  case hdma4 => exact (bus_ioCgb hm (n := 0x54) (r := .hdma4) (by decide) nofun v).2
  case hdma5 => exact (bus_ioCgb hm (n := 0x55) (r := .hdma5) (by decide) nofun v).1
  case svbk =>
    have hsvbk := bus_ioCgb hm (n := 0x70) (r := .svbk) (by decide) nofun v
    exact ⟨hsvbk.1.trans (congrArg (Res.ok · s) (unusedSet_3 _)), _, hsvbk.2, BitVec.toNat_setWidth .., rfl⟩

end Sys2Proof.Laws.Registers
end

section
/-! Interrupts and the timer (60_exceptions.md, 61_timer.md): which source a dispatch takes and where it goes, and
when TIMA moves. -/

namespace Sys2Proof.Machine

open Sys2Proof.Claims

/-! ## Taking an interrupt -/

/-- Bit `k` of the pending and enabled sources (R406). -/
theorem State.pending_getLsbD (s : State) {k : Nat} (hk : k < 5) :
    s.pending.getLsbD k = (s.irq.ie.getLsbD k && s.irq.req.getLsbD k) := by
  unfold State.pending
  rw [BitVec.getLsbD_and, BitVec.getLsbD_setWidth, decide_eq_true hk, Bool.true_and]

/-- The lowest set bit is the one below which none is set (R404). -/
theorem lowestBit_eq {p : BitVec 5} {k : Nat} (hk : k < 5) (h : p.getLsbD k = true)
    (hlow : ∀ j < k, p.getLsbD j = false) : lowestBit p = k := by
  obtain rfl | rfl | rfl | rfl | rfl : k = 0 ∨ k = 1 ∨ k = 2 ∨ k = 3 ∨ k = 4 := by omega
  all_goals
    revert p
    decide

/-- The vectors are eight bytes apart from 0x0040 on (R407). -/
theorem vectorOf_eq (k : Nat) : vectorOf k = BitVec.ofNat 16 (0x40 + 8 * k) :=
  (BitVec.ofNat_add (n := 16) 0x40 (8 * k)).symm

theorem dispatch_of_none {s : State} (h : ∀ k < 5, s.pending.getLsbD k = false) : dispatch s = .ok () s := by
  refine if_pos (BitVec.eq_of_getLsbD_eq fun k hk => ?_)
  rw [h k hk]
  exact BitVec.getLsbD_zero.symm

theorem dispatch_of_lowest {s : State} {k : Nat} (hk : k < 5) (h : s.pending.getLsbD k = true)
    (hlow : ∀ j < k, s.pending.getLsbD j = false) : dispatch s = takeInterrupt k s := by
  have hp : s.pending ≠ 0 := fun e => by
    rw [e, show (0 : BitVec 5) = 0#5 from rfl, BitVec.getLsbD_zero] at h
    exact Bool.false_ne_true h
  unfold dispatch
  rw [if_neg hp, lowestBit_eq hk h hlow]

/-- The push of an interrupt has no internal cycle: from the state in which it is taken to its last store (R406). -/
theorem takeInterrupt_live {s : State} (h : Live s) (hp : s.Pushable s.cpu.pc) (k : Nat) :
    ∃ m, Live m ∧ Pushed 0 0 s.cpu.pc s m ∧ takeInterrupt k s = .ok () { m with
      cpu := { m.cpu with pc := BitVec.ofNat 16 (0x40 + 8 * k), ime := false, halted := false }
      irq := { m.irq with req := m.irq.req &&& ~~~(1#5 <<< k) } } := by
  obtain ⟨_, m, hpush, hm, u, he, -, hpushed⟩ := pushWord_done h hp []
  rw [he.none rfl] at hpushed
  refine ⟨m, hm, hpushed, ?_⟩
  unfold takeInterrupt
  rw [hpush, ← vectorOf_eq]
  rfl

/-! ## The timer -/

theorem timerBit_eq (tac : BitVec 3) : timerBit tac = [9, 3, 5, 7].getD (tac.toNat % 4) 9 := by
  revert tac
  decide

/-- Where the watched bit does not fall, the divider advances and nothing else changes (R441). -/
theorem timerTick_of_not_falls {s : State} (hf : ¬timerFalls s.timer.tac s.timer.div (s.timer.div + 1) = true) :
    timerTick s = { s with timer := { s.timer with div := s.timer.div + 1 } } :=
  if_neg hf

/-- Where the watched bit falls TIMA counts up (R441). -/
theorem timerTick_of_falls {s : State} (hf : timerFalls s.timer.tac s.timer.div (s.timer.div + 1) = true)
    (ht : s.timer.tima ≠ 0xFF) :
    timerTick s = { s with timer := { s.timer with div := s.timer.div + 1, tima := s.timer.tima + 1 } } :=
  (if_pos hf).trans (if_neg ht)

/-- From 0xFF it takes TMA and requests interrupt 2 instead (R443). -/
theorem timerTick_of_overflow {s : State} (hf : timerFalls s.timer.tac s.timer.div (s.timer.div + 1) = true)
    (ht : s.timer.tima = 0xFF) :
    timerTick s = { s with
      timer := { s.timer with div := s.timer.div + 1, tima := s.timer.tma }
      irq := { s.irq with req := s.irq.req ||| 0b00100 } } :=
  (if_pos hf).trans (if_pos ht)

/-- The ticks between two increments of TIMA (R442). -/
def timerPeriod (tac : BitVec 3) : Nat := 2 ^ (timerBit tac + 1)

theorem timerPeriod_eq (tac : BitVec 3) : timerPeriod tac = [1024, 16, 64, 256].getD (tac.toNat % 4) 1024 := by
  revert tac
  decide

/-- Bit `b` falls in the last tick of a period of `2 ^ (b + 1)` (R441). -/
theorem falls_iff {b : Nat} (hb : b < 16) (d : Word) :
    (d.getLsbD b = true ∧ (d + 1).getLsbD b = false) ↔ 2 ^ (b + 1) ∣ d.toNat + 1 := by
  have hd := d.isLt
  have hnext : (d + 1).toNat = (d.toNat + 1) % 2 ^ 16 := BitVec.toNat_add d 1
  unfold BitVec.getLsbD
  rw [hnext, Nat.testBit_mod_two_pow, decide_eq_true hb, Bool.true_and, Nat.testBit_eq_decide_div_mod_eq,
    Nat.testBit_eq_decide_div_mod_eq, decide_eq_true_eq, decide_eq_false_iff_not, Nat.dvd_iff_mod_eq_zero, pow_succ]
  have hdiv := Nat.succ_div (a := d.toNat) (b := 2 ^ b)
  have hmod := Nat.mod_mul (x := d.toNat + 1) (a := 2 ^ b) (b := 2)
  have hlt := Nat.mod_lt (d.toNat + 1) (Nat.two_pow_pos b)
  rw [hmod]
  by_cases hdvd : 2 ^ b ∣ d.toNat + 1
  · rw [if_pos hdvd] at hdiv
    rw [Nat.dvd_iff_mod_eq_zero.1 hdvd, hdiv, Nat.zero_add, Nat.mul_eq_zero]
    have := (Nat.two_pow_pos b).ne'
    omega
  · rw [if_neg hdvd, Nat.add_zero] at hdiv
    have hne : (d.toNat + 1) % 2 ^ b ≠ 0 := fun e => hdvd (Nat.dvd_of_mod_eq_zero e)
    rw [hdiv]
    omega

/-- An enabled timer's watched bit falls in the last tick of each period (R441, R442). -/
theorem timerFalls_iff {tac : BitVec 3} (he : tac.getLsbD 2 = true) (d : Word) :
    timerFalls tac d (d + 1) = true ↔ timerPeriod tac ∣ d.toNat + 1 := by
  have hb : timerBit tac < 16 := by
    revert tac
    decide
  unfold timerFalls timerPeriod
  rw [he, Bool.true_and, Bool.and_eq_true, Bool.not_eq_true', falls_iff hb]

theorem timerPeriod_dvd (tac : BitVec 3) : timerPeriod tac ∣ 2 ^ 16 := by
  revert tac
  decide

/-- One more tick, in the last tick of a period one more increment: `d` is the divider now, reached from `d0` in
`n` ticks. -/
theorem ticks_div_succ {tac : BitVec 3} {d0 d : Word} {n : Nat} (hd : d = d0 + BitVec.ofNat 16 n) :
    (d0.toNat % timerPeriod tac + (n + 1)) / timerPeriod tac =
      (d0.toNat % timerPeriod tac + n) / timerPeriod tac +
        if timerPeriod tac ∣ d.toNat + 1 then 1 else 0 := by
  have hphase : timerPeriod tac ∣ d.toNat + 1 ↔ timerPeriod tac ∣ d0.toNat % timerPeriod tac + n + 1 := by
    have hdvd := timerPeriod_dvd tac
    rw [Nat.dvd_iff_mod_eq_zero, Nat.dvd_iff_mod_eq_zero, hd, BitVec.toNat_add, BitVec.toNat_ofNat, Nat.add_mod_mod,
      Nat.add_mod, Nat.mod_mod_of_dvd _ hdvd, ← Nat.add_mod, Nat.add_assoc, Nat.add_assoc, Nat.mod_add_mod]
  rw [← Nat.add_assoc, Nat.succ_div]
  simp only [hphase]

/-- What `n` ticks of an enabled timer leave, as long as TIMA does not overflow (R442). -/
structure TimerAfter (n : Nat) (s t : State) : Prop where
  tac : t.timer.tac = s.timer.tac
  div : t.timer.div = s.timer.div + BitVec.ofNat 16 n
  irq : t.irq = s.irq
  tima : t.timer.tima.toNat = s.timer.tima.toNat +
    (s.timer.div.toNat % timerPeriod s.timer.tac + n) / timerPeriod s.timer.tac

theorem TimerAfter.tick {n : Nat} {s t : State} (h : TimerAfter n s t) (he : s.timer.tac.getLsbD 2 = true)
    (hmax : s.timer.tima.toNat +
      (s.timer.div.toNat % timerPeriod s.timer.tac + (n + 1)) / timerPeriod s.timer.tac ≤ 255) :
    TimerAfter (n + 1) s (timerTick t) := by
  have hfalls := timerFalls_iff (h.tac ▸ he) t.timer.div
  rw [h.tac] at hfalls
  have htima := h.tima
  have hdiv : t.timer.div + 1 = s.timer.div + BitVec.ofNat 16 (n + 1) := by
    rw [h.div, BitVec.add_assoc, BitVec.ofNat_add]
    rfl
  have hsucc := ticks_div_succ (tac := s.timer.tac) h.div
  by_cases hlast : timerPeriod s.timer.tac ∣ t.timer.div.toNat + 1
  · rw [if_pos hlast] at hsucc
    have hne : t.timer.tima ≠ 0xFF := fun e => by
      rw [e, show (0xFF : Byte).toNat = 255 from rfl] at htima
      omega
    rw [timerTick_of_falls (h.tac ▸ hfalls.2 hlast) hne]
    refine ⟨h.tac, hdiv, h.irq, ?_⟩
    show (t.timer.tima + 1).toNat = _
    rw [BitVec.toNat_add, show (1 : Byte).toNat = 1 from rfl]
    omega
  · rw [if_neg hlast] at hsucc
    rw [timerTick_of_not_falls (h.tac ▸ mt hfalls.1 hlast)]
    exact ⟨h.tac, hdiv, h.irq, htima.trans (congrArg (s.timer.tima.toNat + ·) hsucc.symm)⟩

theorem timerAfter_iterate {s : State} (he : s.timer.tac.getLsbD 2 = true) : ∀ n : Nat,
    s.timer.tima.toNat +
      (s.timer.div.toNat % timerPeriod s.timer.tac + n) / timerPeriod s.timer.tac ≤ 255 →
    TimerAfter n s (timerTick^[n] s)
  | 0, _ => by
    have hzero : (s.timer.div.toNat % timerPeriod s.timer.tac + 0) / timerPeriod s.timer.tac = 0 :=
      Nat.div_eq_of_lt (Nat.mod_lt _ (Nat.two_pow_pos _))
    refine ⟨rfl, (BitVec.add_zero _).symm, rfl, ?_⟩
    rw [hzero]
    rfl
  | n + 1, hmax => by
    have hmono := Nat.div_le_div_right (c := timerPeriod s.timer.tac)
      (Nat.add_le_add_left (Nat.le_add_right n 1) (s.timer.div.toNat % timerPeriod s.timer.tac))
    rw [Function.iterate_succ_apply']
    exact (timerAfter_iterate he n (by omega)).tick he hmax

end Sys2Proof.Machine

/-! ## The obligations -/

namespace Sys2Proof.Laws.Timers

open Sys2Proof.Machine Sys2Proof.Claims

/-- Settles O9: the pending sources bit by bit choose the interrupt, and taking it is a push without internal
cycles. -/
theorem dispatchTakesInterrupt : Obligations.DispatchTakesInterrupt := by
  refine fun s h => ⟨fun hnone => ?none, fun k hk hpush hbit hlow => ?taken⟩
  case none => exact dispatch_of_none fun k hk => (s.pending_getLsbD hk).trans (hnone k hk)
  case taken =>
    rw [dispatch_of_lowest hk ((s.pending_getLsbD hk).trans hbit) fun j hj =>
      (s.pending_getLsbD (hj.trans hk)).trans (hlow j hj)]
    exact takeInterrupt_live h hpush k

/-- Settles O23: the watched bit falls or not, and where it falls TIMA overflows or not. -/
theorem timerTick : Obligations.TimerTick := by
  intro s b fell hb hfell
  have hf : timerFalls s.timer.tac s.timer.div (s.timer.div + 1) = fell := by
    rw [hfell, hb, ← timerBit_eq]
    rfl
  cases fell with
  | true =>
    by_cases ht : s.timer.tima = 0xFF
    · rw [timerTick_of_overflow hf ht, if_pos rfl, if_pos ht, if_pos ⟨rfl, ht⟩]
    · rw [timerTick_of_falls hf ht, if_pos rfl, if_neg ht, if_neg fun h => ht h.2]
  | false => exact timerTick_of_not_falls (hf ▸ Bool.false_ne_true)

/-- Settles O24, by induction on the ticks: the watched bit falls in the last tick of each period. -/
theorem timerRate : Obligations.TimerRate := by
  intro s n period he hperiod hmax
  rw [← timerPeriod_eq] at hperiod
  subst hperiod
  have h := timerAfter_iterate he n hmax
  exact ⟨h.tima, h.irq, h.div⟩

end Sys2Proof.Laws.Timers
end

section
/-! The pixels (63_ppu_modes.md R507-R513, 64_pixel_pipeline.md R540-R543): the order of a line's sprites, the sprite
that decides a pixel, and the pixel that leaves the FIFO. -/

namespace Sys2Proof.Machine

open Sys2Proof.Claims

/-! ## The line's sprites -/

theorem insertByX_perm (sp : Sprite) (l : List Sprite) : (insertByX sp l).Perm (sp :: l) := by
  induction l with
  | nil => exact .refl _
  | cons t rest ih =>
    simp only [insertByX]
    split
    · exact .refl _
    · exact (ih.cons t).trans (.swap sp t rest)

/-- Ascending X, and equal X by index (R508). -/
def SpriteBefore (p q : Sprite) : Prop := p.x.toNat < q.x.toNat ∨ (p.x = q.x ∧ p.index < q.index)

theorem SpriteBefore.le {p q : Sprite} (h : SpriteBefore p q) : p.x.toNat ≤ q.x.toNat := by
  rcases h with h | ⟨h, -⟩
  · exact h.le
  · exact (congrArg BitVec.toNat h).le

/-- A sprite goes before the first of greater X: behind those of its own X, which have lower indices. -/
theorem insertByX_pairwise {sp : Sprite} {l : List Sprite} (hl : l.Pairwise SpriteBefore)
    (hi : ∀ t ∈ l, t.index < sp.index) : (insertByX sp l).Pairwise SpriteBefore := by
  induction l with
  | nil => exact List.pairwise_singleton _ _
  | cons t rest ih =>
    obtain ⟨ht, hrest⟩ := List.pairwise_cons.1 hl
    simp only [insertByX]
    split
    · rename_i hlt
      refine List.pairwise_cons.2 ⟨fun q hq => .inl ?_, hl⟩
      rcases List.mem_cons.1 hq with rfl | hq
      · exact hlt
      · exact Nat.lt_of_lt_of_le hlt (ht q hq).le
    · rename_i hge
      refine List.pairwise_cons.2 ⟨fun q hq => ?_, ih hrest fun q hq => hi q (List.mem_cons_of_mem t hq)⟩
      rcases List.mem_cons.1 ((insertByX_perm sp rest).mem_iff.1 hq) with rfl | hq
      · rcases Nat.lt_or_eq_of_le (Nat.le_of_not_lt hge) with hx | hx
        · exact .inl hx
        · exact .inr ⟨BitVec.eq_of_toNat_eq hx, hi t List.mem_cons_self⟩
      · exact ht q hq

/-- The insertion sort of a list in index order, onto what is sorted already. -/
theorem foldl_insertByX {l acc : List Sprite} (hl : l.Pairwise fun p q => p.index < q.index)
    (hacc : acc.Pairwise SpriteBefore) (hi : ∀ p ∈ acc, ∀ q ∈ l, p.index < q.index) :
    (l.foldl (fun acc sp => insertByX sp acc) acc).Perm (acc ++ l) ∧
      (l.foldl (fun acc sp => insertByX sp acc) acc).Pairwise SpriteBefore := by
  induction l generalizing acc with
  | nil => exact ⟨by simp, hacc⟩
  | cons sp rest ih =>
    obtain ⟨hsp, hrest⟩ := List.pairwise_cons.1 hl
    have hperm := insertByX_perm sp acc
    obtain ⟨hp, hs⟩ := ih hrest (insertByX_pairwise hacc fun t ht => hi t ht sp List.mem_cons_self)
      fun p hp q hq => by
        rcases List.mem_cons.1 (hperm.mem_iff.1 hp) with rfl | hp
        · exact hsp q hq
        · exact hi p hp q (List.mem_cons_of_mem sp hq)
    exact ⟨hp.trans ((hperm.append_right rest).trans List.perm_middle.symm), hs⟩

theorem sortByX_perm {l : List Sprite} (hl : l.Pairwise fun p q => p.index < q.index) : (sortByX l).Perm l :=
  (foldl_insertByX hl .nil nofun).1

theorem sortByX_pairwise {l : List Sprite} (hl : l.Pairwise fun p q => p.index < q.index) :
    (sortByX l).Pairwise SpriteBefore :=
  (foldl_insertByX hl .nil nofun).2

/-- The OAM entries on the line, in OAM order (R507). -/
def spritesOnLine (s : State) : List Sprite := ((List.range 40).map (oamEntry s)).filter (spriteOnLine s.lcd)

theorem spritesOnLine_pairwise (s : State) : (spritesOnLine s).Pairwise fun p q => p.index < q.index :=
  List.Pairwise.filter _ (List.pairwise_map.2 List.pairwise_lt_range)

theorem mem_spritesOnLine {s : State} {sp : Sprite} :
    sp ∈ spritesOnLine s ↔ sp.index < 40 ∧ sp = oamEntry s sp.index ∧ spriteOnLine s.lcd sp = true := by
  simp only [spritesOnLine, List.mem_filter, List.mem_map, List.mem_range]
  constructor
  · rintro ⟨⟨i, hi, rfl⟩, hl⟩
    exact ⟨hi, rfl, hl⟩
  · rintro ⟨hi, he, hl⟩
    exact ⟨⟨sp.index, hi, he.symm⟩, hl⟩

/-- An entry on the line that is not among the first ten comes after all of those (R507). -/
theorem lt_of_not_mem_take {l : List Sprite} (hl : l.Pairwise fun p q => p.index < q.index) {n : Nat} {sp : Sprite}
    (hsp : sp ∈ l) (hn : sp ∉ l.take n) : (l.take n).length = n ∧ ∀ q ∈ l.take n, q.index < sp.index := by
  have hdrop : sp ∈ l.drop n := by
    rw [← List.take_append_drop n l] at hsp
    exact (List.mem_append.1 hsp).resolve_left hn
  have hlen := List.length_pos_of_mem hdrop
  rw [← List.take_append_drop n l] at hl
  refine ⟨?_, fun q hq => (List.pairwise_append.1 hl).2.2 q hq sp hdrop⟩
  rw [List.length_drop] at hlen
  rw [List.length_take]
  omega

/-- The line's sprites are the first ten on it, in either mode (R507, R508). -/
theorem selectSprites_perm (s : State) : (selectSprites s).Perm ((spritesOnLine s).take 10) := by
  unfold selectSprites
  dsimp only
  split
  · exact sortByX_perm ((spritesOnLine_pairwise s).sublist (List.take_sublist 10 _))
  · exact .refl _

/-! ## The sprite that decides a pixel -/

/-- A colour index is its low plane's bit and twice its high plane's (R514). -/
theorem colourIndex_toNat (lo hi : Byte) (k : Nat) :
    (colourIndex lo hi k).toNat = (lo.getLsbD k).toNat + 2 * (hi.getLsbD k).toNat := by
  unfold colourIndex
  cases lo.getLsbD k <;> cases hi.getLsbD k <;> rfl

/-- A palette holds four shades of two bits (R496). -/
theorem paletteShade_eq (palette : Byte) (c : BitVec 2) :
    paletteShade palette c = BitVec.ofNat 2 (palette.toNat / 4 ^ c.toNat) := by
  apply BitVec.eq_of_toNat_eq
  simp [paletteShade, Nat.shiftRight_eq_div_pow, pow_mul]

theorem backgroundIndex_toNat (s : State) (i : Nat) : (backgroundIndex s i).toNat =
    if s.lcd.lcdc.getLsbD 0 then
      (s.pipe.tileLo.getLsbD (7 - i)).toNat + 2 * (s.pipe.tileHi.getLsbD (7 - i)).toNat else 0 := by
  unfold backgroundIndex
  split
  · exact colourIndex_toNat _ _ _
  · rfl

/-- The colour index of a sprite over a pixel is `spriteColour`; off the pixel, or transparent, the sprite passes the
decision on (R540). -/
theorem resolveSprites_cons_of_zero {s : State} {p : Nat} {x : Sprite × Byte × Byte} (h : spriteColour s p x = 0)
    (bg : BitVec 2) (under : Pixel) (rest : List (Sprite × Byte × Byte)) :
    resolveSprites s p bg under (x :: rest) = resolveSprites s p bg under rest := by
  obtain ⟨sp, lo, hi⟩ := x
  simp only [resolveSprites]
  split
  · rename_i hover
    refine if_neg (not_not.2 (BitVec.eq_of_toNat_eq ?_))
    rw [colourIndex_toNat]
    exact (if_pos hover).symm.trans h
  · rfl

/-- An opaque sprite over a pixel decides it (R540). -/
theorem resolveSprites_cons_of_ne {s : State} {p : Nat} {x : Sprite × Byte × Byte} (h : spriteColour s p x ≠ 0)
    (bg : BitVec 2) (under : Pixel) (rest : List (Sprite × Byte × Byte)) :
    resolveSprites s p bg under (x :: rest) = (if x.1.attr.getLsbD 7 = false ∨ bg.toNat = 0 then
      shadePixel s.params.shades (BitVec.ofNat 2
        ((if x.1.attr.getLsbD 4 then s.lcd.obp1 else s.lcd.obp0).toNat / 4 ^ spriteColour s p x)) else under) := by
  obtain ⟨sp, lo, hi⟩ := x
  have hbehind : (!sp.attr.getLsbD 7 || bg == 0) = true ↔ sp.attr.getLsbD 7 = false ∨ bg.toNat = 0 := by
    rw [Bool.or_eq_true, Bool.not_eq_true', beq_iff_eq, ← BitVec.toNat_inj]
    rfl
  by_cases hover : 0 ≤ (p : Int) - spriteLeft s.pipe sp ∧ (p : Int) - spriteLeft s.pipe sp ≤ 7
  · have hcolour : spriteColour s p (sp, lo, hi) = (colourIndex lo hi (if sp.attr.getLsbD 5 then
        ((p : Int) - spriteLeft s.pipe sp).toNat else 7 - ((p : Int) - spriteLeft s.pipe sp).toNat)).toNat :=
      (if_pos hover).trans (colourIndex_toNat _ _ _).symm
    rw [hcolour] at h
    simp only [resolveSprites, if_pos hover, hcolour, hbehind, ← paletteShade_eq]
    exact if_pos fun e => h (congrArg BitVec.toNat e)
  · exact absurd (if_neg hover) h

theorem resolveSprites_append {s : State} {p : Nat} {front : List (Sprite × Byte × Byte)}
    (h : ∀ y ∈ front, spriteColour s p y = 0) (bg : BitVec 2) (under : Pixel) (rest : List (Sprite × Byte × Byte)) :
    resolveSprites s p bg under (front ++ rest) = resolveSprites s p bg under rest := by
  induction front with
  | nil => rfl
  | cons x front ih =>
    rw [List.cons_append, resolveSprites_cons_of_zero (h x List.mem_cons_self),
      ih fun y hy => h y (List.mem_cons_of_mem x hy)]

/-! ## The pixel that leaves the FIFO -/

/-- With at most 8 pixels in the FIFO none is popped (R543). -/
theorem popStep_of_le {s : State} (h : s.pipe.fifo.length ≤ 8) : popStep s = .ok () s := by
  unfold popStep
  split
  · rfl
  · exact if_neg (Nat.not_lt.2 h)

/-- The machine after a popped pixel was drawn inside the framebuffer (R543, R516). -/
def State.drawn (s : State) (px : Pixel) (rest : List Pixel) : State :=
  { s with
    mem := { s.mem with
      framebuffer := Cells.set s.mem.framebuffer (s.lcd.ly.toNat * 160 + s.pipe.pushedX)
        (if s.params.mode = .dmg then px else Config.cgbPixel s.draws) }
    draws := if s.params.mode = .dmg then s.draws else s.draws + 1
    pipe := { s.pipe with fifo := rest, lineX := s.pipe.lineX + 1, pushedX := s.pipe.pushedX + 1 } }

section
variable {s : State} {px : Pixel} {rest : List Pixel} (hf : s.pipe.fifo = px :: rest) (h8 : 8 < s.pipe.fifo.length)
include hf h8

/-- The first SCX mod 8 pixels popped on a line are discarded (R543). -/
theorem popStep_of_discard (hx : s.pipe.lineX < s.pipe.scxFine.toNat) : popStep s =
    .ok () { s with pipe := { s.pipe with fifo := rest, lineX := s.pipe.lineX + 1 } } := by
  unfold popStep
  rw [hf] at h8 ⊢
  dsimp only
  rw [if_pos h8, if_neg (Nat.not_le.2 hx)]
  rfl

theorem popStep_of_draw (hx : s.pipe.scxFine.toNat ≤ s.pipe.lineX) (hly : s.lcd.ly.toNat < 144)
    (hp : s.pipe.pushedX < 160) : popStep s = .ok () (s.drawn px rest) := by
  unfold popStep State.drawn
  rw [hf] at h8 ⊢
  dsimp only
  rw [if_pos h8, if_pos hx]
  unfold drawPixel
  dsimp only
  rw [if_pos ⟨hly, hp⟩]
  cases s.params.mode <;> rfl

end

end Sys2Proof.Machine

/-! ## The obligations -/

namespace Sys2Proof.Laws.Pixels

open Sys2Proof.Machine Sys2Proof.Claims

/-- Settles O34: in both modes the list is the first ten entries on the line, which are in index order; in DMG mode
the stable sort puts them in order of X. -/
theorem spriteSelection : Obligations.SpriteSelection := by
  rintro s height rfl
  have hperm := selectSprites_perm s
  have hsorted := spritesOnLine_pairwise s
  have htake := hsorted.sublist (List.take_sublist 10 (spritesOnLine s))
  have honLine : ∀ i, spriteOnLine s.lcd (oamEntry s i) = true ↔
      (oamEntry s i).y.toNat ≤ s.lcd.ly.toNat + 16 ∧
        s.lcd.ly.toNat + 16 < (oamEntry s i).y.toNat + (if s.lcd.lcdc.getLsbD 2 then 16 else 8) := fun i => by
    unfold spriteOnLine objectHeight
    rw [Bool.and_eq_true, decide_eq_true_eq, decide_eq_true_eq]
  refine ⟨length_selectSprites s, fun sp hsp => ?entry, fun i hi hon hnot => ?left, fun hm => ?dmg, fun hm => ?cgb⟩
  case entry =>
    obtain ⟨hi, he, hl⟩ := mem_spritesOnLine.1 (List.mem_of_mem_take (hperm.mem_iff.1 hsp))
    exact ⟨hi, he, (honLine _).1 (he ▸ hl)⟩
  case left =>
    have hmem : oamEntry s i ∈ spritesOnLine s := mem_spritesOnLine.2 ⟨hi, rfl, (honLine i).2 hon⟩
    obtain ⟨hlen, hlt⟩ := lt_of_not_mem_take hsorted hmem (mt hperm.mem_iff.2 hnot)
    exact ⟨hperm.length_eq.trans hlen, fun sp hsp => hlt sp (hperm.mem_iff.1 hsp)⟩
  case dmg =>
    have hsel : selectSprites s = sortByX ((spritesOnLine s).take 10) := by
      unfold selectSprites
      rw [hm]
      rfl
    rw [hsel]
    exact sortByX_pairwise htake
  case cgb =>
    have hsel : selectSprites s = (spritesOnLine s).take 10 := by
      unfold selectSprites
      rw [hm]
      rfl
    rw [hsel]
    exact htake

/-- Settles O35: the sprites in front pass the decision on, and the first opaque one makes it. -/
theorem pixelResolution : Obligations.PixelResolution := by
  rintro s p i bg under layers - hbg hunder hlayers
  rw [← backgroundIndex_toNat] at hbg
  have hback : backgroundPixel s i = under := by
    rw [hunder, hbg, ← paletteShade_eq]
    rfl
  have hresolve : resolvePixel s p i = resolveSprites s p (backgroundIndex s i) under layers := by
    rw [hlayers, ← hback]
    rfl
  refine ⟨fun hnone => ?none, fun front back x hl hfront hx => ?first⟩
  case none =>
    rw [hresolve, ← List.append_nil layers, resolveSprites_append hnone]
    rfl
  case first =>
    rw [hresolve, hl, resolveSprites_append hfront, resolveSprites_cons_of_ne hx, ← hbg]

/-- Settles O36: the three cases of the pop step; a drawn pixel is one write of the framebuffer. -/
theorem popDrawsPixel : Obligations.PopDrawsPixel := by
  refine fun s => ⟨popStep_of_le, fun px rest hf h8 => ⟨popStep_of_discard hf h8, fun hx hly hp =>
    ⟨_, popStep_of_draw hf h8 hx hly hp, ?same, fun j hj => ?other, rfl, rfl⟩⟩⟩
  case same => exact Cells.get_set_same _ _ _
  case other => exact Cells.get_set_ne _ _ hj

end Sys2Proof.Laws.Pixels
end

section
/-! HDMA (62_dma_hdma.md R470-R478): what a write of HDMA5 starts, and what a run of copy steps leaves in video RAM. -/

namespace Sys2Proof.Machine

/-! ## A start -/

/-- Bit 7 of a byte (R472). -/
theorem getLsbD_7_eq (v : Byte) : v.getLsbD 7 = decide (128 ≤ v.toNat) := by
  have hv := v.isLt
  unfold BitVec.getLsbD
  rw [Nat.testBit_eq_decide_div_mod_eq]
  exact decide_eq_decide.2 (by omega)

/-- The length that a start latches: the blocks less one are the byte's low seven bits (R472). -/
theorem latchHdma_remaining (v : Byte) (h : Hdma) : (latchHdma v h).remaining = (v.toNat % 128 + 1) * 16 := by
  show ((v &&& 0x7F).toNat + 1) * 16 = _
  rw [BitVec.toNat_and, show (0x7F : Byte).toNat = 2 ^ 7 - 1 from rfl, Nat.and_two_pow_sub_one_eq_mod]

theorem writeHdma5_abort {s : State} {v : Byte} (ha : s.hdma.active = true) (hv : v.toNat < 128) :
    writeHdma5 v s = .ok () { s with hdma := { s.hdma with active := false } } := by
  unfold writeHdma5
  rw [getLsbD_7_eq, decide_eq_false (Nat.not_le.2 hv), ha]
  rfl

theorem writeHdma5_general {s : State} {v : Byte} (ha : s.hdma.active = false) (hv : v.toNat < 128) :
    writeHdma5 v s = generalCopy { s with hdma := { latchHdma v s.hdma with hblank := false } } := by
  unfold writeHdma5
  rw [getLsbD_7_eq, decide_eq_false (Nat.not_le.2 hv), ha]
  rfl

theorem writeHdma5_hblank {s : State} {v : Byte} (hv : 128 ≤ v.toNat) : writeHdma5 v s =
    .ok () { s with hdma := { latchHdma v s.hdma with hblank := true, active := true } } := by
  unfold writeHdma5
  rw [getLsbD_7_eq, decide_eq_true hv]
  cases s.hdma.active <;> rfl

/-! ## A copy -/

/-- The destination's offset wraps inside video RAM (R472, R478). -/
theorem vramAddress_toNat (x : Word) : (0x8000#16 ||| (x &&& 0x1FFF#16)).toNat = 0x8000 + x.toNat % 0x2000 := by
  have hor := Nat.two_pow_add_eq_or_of_lt (show x.toNat % 2 ^ 13 < 2 ^ 15 by omega) 1
  rw [BitVec.toNat_or, BitVec.toNat_and, show (0x1FFF#16).toNat = 2 ^ 13 - 1 from rfl,
    Nat.and_two_pow_sub_one_eq_mod, show (0x8000#16).toNat = 2 ^ 15 * 1 from rfl, ← hor]
  rfl

/-- One step of a copy from outside the I/O block: the byte goes to the destination, and the pointers and the length
move (R478). -/
def State.hdmaCopied (s : State) : State :=
  { s with
    mem := { s.mem with vram := Cells.set s.mem.vram (s.hdma.dst.toNat - 0x8000) (s.peek s.hdma.src) }
    hdma := { s.hdma with
      src := s.hdma.src + 1
      dst := 0x8000 ||| ((s.hdma.dst + 1) &&& 0x1FFF)
      remaining := s.hdma.remaining - 1
      active := s.hdma.active && decide (s.hdma.remaining - 1 ≠ 0) } }

theorem hdmaCopyStep_eq {s : State} (hsrc : ∀ r, s.locate s.hdma.src ≠ .io r)
    (hdst : 0x8000 ≤ s.hdma.dst.toNat ∧ s.hdma.dst.toNat ≤ 0x9FFF) :
    hdmaCopyStep s = .ok () s.hdmaCopied := by
  unfold hdmaCopyStep
  rw [busRead_plain hsrc]
  exact if_pos hdst

/-- A byte outside video RAM and the I/O block reads the same after a copy step. -/
theorem State.peek_hdmaCopied {s : State} {a : Word} (hv : ∀ j, s.locate a ≠ .vram j)
    (hio : ∀ r, s.locate a ≠ .io r) : s.hdmaCopied.peek a = s.peek a := by
  show s.hdmaCopied.byteAt a (s.locate a) = s.byteAt a (s.locate a)
  cases hl : s.locate a with
  | vram j => exact absurd hl (hv j)
  | io r => exact absurd hl (hio r)
  | _ => rfl

/-- A copy step leaves a live machine live where bytes are left to copy: the source then stays below the I/O block
as long as it has to (R475, R478). -/
theorem Live.hdmaCopied {s : State} (h : Live s) (hleft : 0 < s.hdma.remaining) : Live s.hdmaCopied where
  running := h.running
  neverRefuses := by
    refine h.neverRefuses.imp_right fun ⟨hdma, hhdma⟩ => ⟨hdma, fun ha => ?_⟩
    have hbelow := hhdma (Bool.and_eq_true_iff.1 ha).1
    unfold Hdma.BelowIo at *
    show (s.hdma.src + 1).toNat + (s.hdma.remaining - 1) + 16 ≤ 0xFF00
    rw [BitVec.toNat_add, show (1 : Word).toNat = 1 from rfl]
    omega
  coherent := ⟨h.coherent.dmaCursor, vramAddress_range _, h.coherent.line, h.coherent.column⟩

/-- The offset in video RAM that the `k`-th byte of a copy goes to (R478). -/
def State.vramTarget (s : State) (k : Nat) : Nat := (s.hdma.dst.toNat - 0x8000 + k) % 0x2000

/-- What `n` bytes copied from outside video RAM and the I/O block leave (R478). -/
structure BytesCopied (n : Nat) (s t : State) : Prop where
  live : Live t
  bytes : ∀ k < n, Cells.get t.mem.vram (s.vramTarget k) = s.peek (s.hdma.src + BitVec.ofNat 16 k)
  others : ∀ j, (∀ k < n, j ≠ s.vramTarget k) → Cells.get t.mem.vram j = Cells.get s.mem.vram j
  src : t.hdma.src = s.hdma.src + BitVec.ofNat 16 n
  dst : t.hdma.dst.toNat = 0x8000 + s.vramTarget n
  remaining : t.hdma.remaining = s.hdma.remaining - n
  active : t.hdma.active = (s.hdma.active && decide (n = 0 ∨ s.hdma.remaining ≠ n))
  frame : t = { s with mem := { s.mem with vram := t.mem.vram }, hdma := t.hdma }

theorem BytesCopied.refl {s : State} (h : Live s) : BytesCopied 0 s s where
  live := h
  bytes := nofun
  others _ _ := rfl
  src := (BitVec.add_zero _).symm
  dst := by
    have hdst := h.coherent.hdmaDst
    unfold State.vramTarget
    omega
  remaining := rfl
  active := by simp
  frame := rfl

/-- A first byte before `n` more: they reach all of video RAM at most once, so that its cell is left alone. -/
theorem BytesCopied.cons {n : Nat} {s t : State} (h : Live s) (ht : BytesCopied n s.hdmaCopied t)
    (hn : n + 1 ≤ 0x2000) (hleft : n + 1 ≤ s.hdma.remaining)
    (hsrc : ∀ k < n + 1, (∀ j, s.locate (s.hdma.src + BitVec.ofNat 16 k) ≠ .vram j) ∧
      (∀ r, s.locate (s.hdma.src + BitVec.ofNat 16 k) ≠ .io r)) : BytesCopied (n + 1) s t := by
  have hdst := h.coherent.hdmaDst
  have hsrc1 : ∀ k, s.hdmaCopied.hdma.src + BitVec.ofNat 16 k = s.hdma.src + BitVec.ofNat 16 (k + 1) := fun k => by
    show s.hdma.src + 1 + BitVec.ofNat 16 k = _
    rw [Nat.add_comm, BitVec.ofNat_add, ← BitVec.add_assoc]
    rfl
  have htarget : ∀ k, s.hdmaCopied.vramTarget k = s.vramTarget (k + 1) := fun k => by
    show ((0x8000#16 ||| ((s.hdma.dst + 1) &&& 0x1FFF#16)).toNat - 0x8000 + k) % 0x2000 = _
    rw [vramAddress_toNat, BitVec.toNat_add, show (1 : Word).toNat = 1 from rfl]
    unfold State.vramTarget
    omega
  have hfirst : s.hdma.dst.toNat - 0x8000 = s.vramTarget 0 := by
    unfold State.vramTarget
    omega
  have hapart : ∀ k < n, s.vramTarget 0 ≠ s.vramTarget (k + 1) := fun k hk => by
    unfold State.vramTarget
    omega
  refine ⟨ht.live, fun k hk => ?bytes, fun j hj => ?others, ?src, ?dst, ?remaining, ?active, ?frame⟩
  case bytes =>
    cases k with
    | zero =>
      rw [ht.others _ fun k hk => by rw [htarget]; exact hapart k hk, ← hfirst]
      show Cells.get (Cells.set s.mem.vram _ (s.peek s.hdma.src)) _ = _
      rw [Cells.get_set_same, BitVec.add_zero]
    | succ k =>
      have hk' := hsrc (k + 1) hk
      rw [← htarget, ht.bytes k (Nat.lt_of_succ_lt_succ hk), hsrc1, State.peek_hdmaCopied hk'.1 hk'.2]
  case others =>
    rw [ht.others j fun k hk => by rw [htarget]; exact hj (k + 1) (Nat.succ_lt_succ hk)]
    exact Cells.get_set_ne _ _ (hfirst ▸ hj 0 (Nat.succ_pos n))
  case src => rw [ht.src, hsrc1]
  case dst => rw [ht.dst, htarget]
  case remaining =>
    rw [ht.remaining]
    show s.hdma.remaining - 1 - n = _
    omega
  case active =>
    rw [ht.active]
    show (s.hdma.active && decide (s.hdma.remaining - 1 ≠ 0) && decide (n = 0 ∨ s.hdma.remaining - 1 ≠ n)) = _
    rw [Bool.and_assoc, ← Bool.decide_and]
    exact congrArg (s.hdma.active && ·) (decide_eq_decide.2 (by omega))
  case frame =>
    have hframe := ht.frame
    exact hframe

theorem hdmaCopies_done : ∀ (n : Nat) {s : State}, Live s → n ≤ 0x2000 → n ≤ s.hdma.remaining →
    (∀ k < n, (∀ j, s.locate (s.hdma.src + BitVec.ofNat 16 k) ≠ .vram j) ∧
      (∀ r, s.locate (s.hdma.src + BitVec.ofNat 16 k) ≠ .io r)) →
    (Res.repeat hdmaCopyStep n s).Done fun _ t => BytesCopied n s t
  | 0, _, h, _, _, _ => Res.done_ok (.refl h)
  | n + 1, s, h, hn, hleft, hsrc => by
    have hfirst : ∀ r, s.locate s.hdma.src ≠ .io r := by
      have h0 := (hsrc 0 (Nat.succ_pos n)).2
      rwa [BitVec.add_zero] at h0
    have hrest : ∀ k < n, (∀ j, s.hdmaCopied.locate (s.hdmaCopied.hdma.src + BitVec.ofNat 16 k) ≠ .vram j) ∧
        (∀ r, s.hdmaCopied.locate (s.hdmaCopied.hdma.src + BitVec.ofNat 16 k) ≠ .io r) := fun k hk => by
      have hk' := hsrc (k + 1) (Nat.succ_lt_succ hk)
      rw [Nat.add_comm, BitVec.ofNat_add, ← BitVec.add_assoc] at hk'
      exact hk'
    show ((hdmaCopyStep s).andThen fun _ t => Res.repeat hdmaCopyStep n t).Done _
    rw [hdmaCopyStep_eq hfirst h.coherent.hdmaDst, Res.andThen_ok]
    have hleft1 : n ≤ s.hdmaCopied.hdma.remaining := Nat.le_sub_one_of_lt hleft
    exact (hdmaCopies_done n (h.hdmaCopied (Nat.lt_of_lt_of_le (Nat.succ_pos n) hleft)) (Nat.le_of_succ_le hn) hleft1
      hrest).mono fun _ t ht => ht.cons h hn hleft hsrc

end Sys2Proof.Machine

/-! ## The obligations -/

namespace Sys2Proof.Laws.Hdma

open Sys2Proof.Machine

/-- Settles O27: the three cases of `writeHdma5`. -/
theorem hdmaStart : Obligations.HdmaStart := by
  intro s v latched hm hlatched
  have hwrite := (bus_ioCgb hm (n := 0x55) (r := .hdma5) (by decide) nofun v).2
  have hlatch : latchHdma v s.hdma = latched := by
    rw [hlatched, ← latchHdma_remaining v s.hdma]
    rfl
  refine ⟨fun ha hv => hwrite.trans (writeHdma5_abort ha hv), fun ha hv => ?general, fun hv => ?hblank⟩
  case general =>
    have hcopy := hwrite.trans (writeHdma5_general ha hv)
    unfold generalCopy at hcopy
    rw [hlatch] at hcopy
    rw [← latchHdma_remaining v s.hdma, hlatch]
    exact hcopy
  case hblank =>
    rw [← hlatch]
    exact hwrite.trans (writeHdma5_hblank hv)

/-- Settles O28, by induction on the bytes. -/
theorem hdmaCopies : Obligations.HdmaCopies := by
  intro s n h hpos hleft hn hsrc
  obtain ⟨_, t, hcopy, ht⟩ := hdmaCopies_done n h hn hleft hsrc
  refine ⟨t, hcopy, ht.live, ht.bytes, ht.others, ht.src, ht.dst, ht.remaining, ?_, ht.frame⟩
  rw [ht.active]
  simp [hpos.ne']

end Sys2Proof.Laws.Hdma
end

section
/-! Entering a PPU mode (63_ppu_modes.md R500, R504): everything that an entry changes, wherever it goes on. -/

namespace Sys2Proof.Machine

open Sys2Proof.Claims

/-! ## The HBlank block -/

/-- What HDMA bytes change: video RAM, the transfer's own fields, and the events, to which only warnings of the
source's reads are added (R88, R478). -/
structure CopyFrame (s t : State) : Prop where
  frame : t = { s with mem := { s.mem with vram := t.mem.vram }, hdma := t.hdma, events := t.events }
  frames : framesDone t = framesDone s

theorem CopyFrame.refl (s : State) : CopyFrame s s := ⟨rfl, rfl⟩

theorem CopyFrame.trans {s t u : State} (h : CopyFrame s t) (k : CopyFrame t u) : CopyFrame s u where
  frame := by
    have hu := k.frame
    rw [h.frame] at hu
    exact hu
  frames := k.frames.trans h.frames

theorem framesDone_warn (a : Word) (s : State) : framesDone (warn a s) = framesDone s := by
  simp [framesDone, warn]

theorem hdmaCopyStep_frame (s : State) : (hdmaCopyStep s).Sat fun _ t => CopyFrame s t := by
  refine (busRead_sat _ s).andThen fun v t ⟨_, ht⟩ => ?_
  refine of_ite (P := fun r => Res.Sat r _) (fun _ => ?_) fun _ => sat_raise _ _ _
  rcases ht with rfl | rfl
  · exact ⟨rfl, rfl⟩
  · exact ⟨rfl, framesDone_warn _ s⟩

theorem hdmaCopy_frame (n : Nat) (s : State) : (Res.repeat hdmaCopyStep n s).Sat fun _ t => CopyFrame s t :=
  Res.sat_repeat_keep (G := CopyFrame s) (fun t ht => (hdmaCopyStep_frame t).mono fun _ _ hu => ht.trans hu) n s
    (.refl s)

/-- An entry into mode 0 finds an HBlank transfer active, on a console that has HDMA (R470, R475). -/
def State.BlockDue (s : State) : Prop := s.params.mode = .cgb ∧ s.hdma.active = true ∧ s.hdma.hblank = true

theorem hdmaHblankBlock_of_due {s : State} (h : s.BlockDue) : hdmaHblankBlock s = Res.repeat hdmaCopyStep 16 s := by
  obtain ⟨hm, ha, hb⟩ := h
  unfold hdmaHblankBlock
  rw [hm, ha, hb]
  rfl

theorem hdmaHblankBlock_of_not_due {s : State} (h : ¬s.BlockDue) : hdmaHblankBlock s = .ok () s := by
  refine if_neg fun hc => h ?_
  simp only [Bool.and_eq_true, beq_iff_eq] at hc
  exact ⟨hc.1.1, hc.1.2, hc.2⟩

/-! ## The requests -/

/-- The request bits with more of them set under a condition (R403). -/
theorem getLsbD_ite_or {c : Prop} [Decidable c] (r b : BitVec 5) (k : Nat) :
    (if c then r ||| b else r).getLsbD k = (r.getLsbD k || (decide c && b.getLsbD k)) := by
  by_cases h : c <;> simp [h]

theorem getLsbD_bit0 {k : Nat} (hk : k < 5) : (0b00001 : BitVec 5).getLsbD k = decide (k = 0) := by
  obtain rfl | rfl | rfl | rfl | rfl : k = 0 ∨ k = 1 ∨ k = 2 ∨ k = 3 ∨ k = 4 := by omega
  all_goals rfl

theorem getLsbD_bit1 {k : Nat} (hk : k < 5) : (0b00010 : BitVec 5).getLsbD k = decide (k = 1) := by
  obtain rfl | rfl | rfl | rfl | rfl : k = 0 ∨ k = 1 ∨ k = 2 ∨ k = 3 ∨ k = 4 := by omega
  all_goals rfl

/-- An entry's STAT request is enabled (R500); mode 3 has none. -/
def entryEnabled (l : Lcd) : PpuMode → Bool
  | .hblank => l.statEnables.getLsbD 0
  | .vblank => l.statEnables.getLsbD 1
  | .oamScan => l.statEnables.getLsbD 2
  | .transfer => false

/-- The machine in its new mode, with the requests that the entry itself makes (R500). -/
def State.inMode (s : State) (m : PpuMode) : State :=
  { s with
    lcd := { s.lcd with mode := m }
    irq := { s.irq with
      req := if entryEnabled s.lcd m then (if m = .vblank then s.irq.req ||| 0b00001 else s.irq.req) ||| 0b00010
        else if m = .vblank then s.irq.req ||| 0b00001 else s.irq.req } }

/-! ## The four entries -/

theorem enterMode_hblank (s : State) : enterMode .hblank s =
    (hdmaHblankBlock (s.inMode .hblank)).andThen fun _ t => .ok () (updateCoincidence t) := by
  unfold enterMode modeEntry
  dsimp only
  rw [statRequest_eq]
  rfl

theorem enterMode_vblank (s : State) : enterMode .vblank s = .ok () (updateCoincidence { s.inMode .vblank with
    ppu := { s.ppu with windowLatch := false, windowLine := 0 }
    events := s.events ++ [.frameComplete] }) := by
  unfold enterMode modeEntry
  dsimp only
  rw [statRequest_eq]
  rfl

theorem enterMode_oamScan (s : State) : enterMode .oamScan s = .ok () (updateCoincidence (s.inMode .oamScan)) := by
  unfold enterMode modeEntry
  dsimp only
  rw [statRequest_eq]
  rfl

theorem enterMode_transfer (s : State) :
    enterMode .transfer s = .ok () (updateCoincidence (startTransfer (s.inMode .transfer))) := rfl

/-- What an entry into a mode changes. -/
structure Entered (m : PpuMode) (s t : State) : Prop where
  lcd : t.lcd = { s.lcd with mode := m, coincidence := s.lcd.ly == s.lcd.lyc }
  irq : t.irq = { s.irq with
    req := if (s.lcd.ly == s.lcd.lyc) && !s.lcd.coincidence && s.lcd.statEnables.getLsbD 3 then
      (s.inMode m).irq.req ||| 0b00010 else (s.inMode m).irq.req }
  block : m = .hblank → s.BlockDue → ∃ u, Res.repeat hdmaCopyStep 16 (s.inMode .hblank) = .ok () u ∧
    t.mem = u.mem ∧ t.hdma = u.hdma ∧ t.events = u.events
  noBlock : ¬(m = .hblank ∧ s.BlockDue) → t.mem = s.mem ∧ t.hdma = s.hdma ∧
    t.events = if m = .vblank then s.events ++ [.frameComplete] else s.events
  mem : t.mem = { s.mem with vram := t.mem.vram }
  pipe : t.pipe = if m = .transfer then (startTransfer s).pipe else s.pipe
  ppu : t.ppu = { s.ppu with
    windowLatch := if m = .vblank then false else s.ppu.windowLatch
    windowLine := if m = .vblank then 0 else s.ppu.windowLine
    windowDrawn := if m = .transfer then false else s.ppu.windowDrawn }
  frames : framesDone t = framesDone s + if m = .vblank then 1 else 0
  frame : t = { s with lcd := t.lcd, irq := t.irq, mem := t.mem, hdma := t.hdma, events := t.events, pipe := t.pipe,
                       ppu := t.ppu }

theorem enterMode_entered (m : PpuMode) (s : State) : (enterMode m s).Sat fun _ t => Entered m s t := by
  cases m with
  | hblank =>
    rw [enterMode_hblank]
    by_cases hdue : s.BlockDue
    · rw [hdmaHblankBlock_of_due (s := s.inMode .hblank) hdue]
      have hcopy := hdmaCopy_frame 16 (s.inMode .hblank)
      cases hr : Res.repeat hdmaCopyStep 16 (s.inMode .hblank) with
      | stop u =>
        rw [hr] at hcopy
        exact hcopy
      | ok _ u =>
        rw [hr] at hcopy
        have hu := hcopy.frame
        generalize u.mem.vram = vram, u.hdma = hdma, u.events = events at hu
        rw [Res.andThen_ok, updateCoincidence_eq]
        subst hu
        exact ⟨rfl, rfl, fun _ _ => ⟨_, hr, rfl, rfl, rfl⟩, fun h => absurd ⟨rfl, hdue⟩ h, rfl, rfl, rfl,
          hcopy.frames, rfl⟩
    · rw [hdmaHblankBlock_of_not_due (s := s.inMode .hblank) hdue, Res.andThen_ok, updateCoincidence_eq]
      exact ⟨rfl, rfl, fun _ h => absurd h hdue, fun _ => ⟨rfl, rfl, rfl⟩, rfl, rfl, rfl, rfl, rfl⟩
  | vblank =>
    rw [enterMode_vblank, updateCoincidence_eq]
    exact ⟨rfl, rfl, nofun, fun _ => ⟨rfl, rfl, rfl⟩, rfl, rfl, rfl, by simp [framesDone], rfl⟩
  | oamScan =>
    rw [enterMode_oamScan, updateCoincidence_eq]
    exact ⟨rfl, rfl, nofun, fun _ => ⟨rfl, rfl, rfl⟩, rfl, rfl, rfl, rfl, rfl⟩
  | transfer =>
    rw [enterMode_transfer, updateCoincidence_eq]
    exact ⟨rfl, rfl, nofun, fun _ => ⟨rfl, rfl, rfl⟩, rfl, rfl, rfl, rfl, rfl⟩

/-- The request bits after an entry (R500, R504). -/
theorem Entered.requests {m : PpuMode} {s t : State} (h : Entered m s t) {k : Nat} (hk : k < 5) :
    t.irq.req.getLsbD k = (s.irq.req.getLsbD k || (decide (k = 0) && decide (m = .vblank)) ||
      (decide (k = 1) && (entryEnabled s.lcd m ||
        ((s.lcd.ly == s.lcd.lyc) && !s.lcd.coincidence && s.lcd.statEnables.getLsbD 3)))) := by
  rw [h.irq]
  simp only [State.inMode, getLsbD_ite_or, getLsbD_bit0 hk, getLsbD_bit1 hk, Bool.decide_eq_true]
  rw [Bool.and_comm (decide (m = .vblank)), Bool.or_assoc (s.irq.req.getLsbD k || _), ← Bool.and_or_distrib_right,
    Bool.and_comm _ (decide (k = 1))]

theorem entryEnabled_eq (l : Lcd) (m : PpuMode) : entryEnabled l m =
    ((decide (m = .hblank) && l.statEnables.getLsbD 0) || (decide (m = .vblank) && l.statEnables.getLsbD 1) ||
      (decide (m = .oamScan) && l.statEnables.getLsbD 2)) := by
  cases m <;> simp [entryEnabled]

end Sys2Proof.Machine

/-! ## The obligation -/

namespace Sys2Proof.Laws.Modes

open Sys2Proof.Machine Sys2Proof.Claims

/-- Settles O30: an entry goes on from a live machine to a live one, and `Entered` says what it changes. -/
theorem modeEntry : Obligations.ModeEntry := by
  intro s m h hly
  obtain ⟨_, t, ht, ⟨hready, -, -⟩, he⟩ := (enterMode_done m h.neverRefuses h.coherent.dmaCursor h.coherent.hdmaDst
    hly).and_sat (enterMode_entered m s)
  refine ⟨t, ht, hready.live ?running, he.lcd, ?ie, fun k hk => ?requests,
    fun hm hcgb ha hb => he.block hm ⟨hcgb, ha, hb⟩, he.noBlock, fun hm => ?transfer, fun hm => ?others, he.ppu,
    he.frames, he.frame⟩
  case running =>
    rw [he.frame]
    exact h.running
  case ie => rw [he.irq]
  case requests =>
    rw [he.requests hk, entryEnabled_eq, Bool.and_right_comm, Bool.and_comm _ (s.lcd.statEnables.getLsbD 3)]
  case transfer =>
    rw [he.pipe, if_pos hm]
    exact ⟨BitVec.toNat_setWidth .., rfl⟩
  case others => rw [he.pipe, if_neg hm]

end Sys2Proof.Laws.Modes
end

section
/-! The PPU's line and frame (63_ppu_modes.md R498-R512, 64_pixel_pipeline.md R546): where the PPU stands at every
tick of a line, and what the last tick of a line starts. -/

namespace Sys2Proof.Machine

open Sys2Proof.Claims

/-! ## Repetition -/

theorem Res.repeat_add (f : State → Res Unit) (m n : Nat) (s : State) :
    Res.repeat f (m + n) s = (Res.repeat f m s).andThen fun _ t => Res.repeat f n t := by
  induction m generalizing s with
  | zero => rw [Nat.zero_add]; rfl
  | succ m ih =>
    rw [Nat.succ_add]
    show (f s).andThen (fun _ t => Res.repeat f (m + n) t) = ((f s).andThen fun _ t => Res.repeat f m t).andThen _
    cases f s with
    | ok _ t => exact ih t
    | stop t => rfl

theorem Res.repeat_mul (f : State → Res Unit) (m n : Nat) (s : State) :
    Res.repeat f (n * m) s = Res.repeat (Res.repeat f m) n s := by
  induction n generalizing s with
  | zero => rw [Nat.zero_mul]; rfl
  | succ n ih =>
    rw [Nat.succ_mul, Nat.add_comm, Res.repeat_add]
    exact congrArg (Res.andThen _) (funext fun _ => funext ih)

/-- What holds at the start, and after `k + 1` of a part where it held after `k`, holds after each of `N`. -/
theorem Res.done_repeat_upTo {f : State → Res Unit} {P : Nat → State → Prop} {s : State} {N : Nat} (h0 : P 0 s)
    (next : ∀ k < N, ∀ t, P k t → (f t).Done fun _ u => P (k + 1) u) :
    ∀ k ≤ N, (Res.repeat f k s).Done fun _ t => P k t
  | 0, _ => Res.done_ok h0
  | k + 1, hk => by
    rw [Res.repeat_add]
    exact (Res.done_repeat_upTo h0 next k (Nat.le_of_succ_le hk)).andThen fun _ t ht => by
      obtain ⟨_, u, hu, hP⟩ := next k hk t ht
      exact ⟨(), u, congrArg (fun r => r.andThen fun _ t => Res.ok () t) hu, hP⟩

/-! ## The tick, by mode -/

/-- The machine with its line tick counted on, on which a tick acts by mode (R498). -/
def State.nextTick (s : State) : State := { s with ppu := { s.ppu with lineTicks := s.ppu.lineTicks + 1 } }

/-- A tick of a PPU that runs acts by its mode (R498, R512). -/
theorem ppuTick_of_runs {s : State} (h : PpuRuns s) : ppuTick s =
    match s.lcd.mode with
    | .oamScan => oamScanTick s.nextTick
    | .transfer => transferTick s.nextTick
    | .hblank => if s.nextTick.ppu.lineTicks = 456 then endLine s.nextTick else .ok () s.nextTick
    | .vblank => if s.nextTick.ppu.lineTicks = 456 then endVblankLine s.nextTick else .ok () s.nextTick := by
  have hstop : ¬(s.params.lcdOffStopsPpu && !s.lcd.lcdc.getLsbD 7) = true := by
    rcases h with h | h <;> simp [h]
  exact if_neg hstop

/-- With the LCD off, where that stops the PPU, a tick does nothing (R512). -/
theorem ppuTick_of_stopped {s : State} (h : ¬PpuRuns s) : ppuTick s = .ok () s := by
  obtain ⟨hstops, hoff⟩ := not_or.1 h
  refine if_pos (Bool.and_eq_true_iff.2 ⟨Bool.eq_true_of_not_eq_false hstops, ?_⟩)
  rw [Bool.eq_false_of_not_eq_true hoff]
  rfl

/-- Time that moves the devices alone leaves the PPU running or not (R512). -/
theorem ppuRuns_of_program {s t : State} (h : PpuRuns s) (hp : t.programSide = s.programSide) : PpuRuns t := by
  unfold PpuRuns
  rw [programSide_params hp, programSide_lcdc hp]
  exact h

/-- A tick of a live machine goes on to a live one, whose PPU runs if it ran, with the same SCX. -/
theorem ppuTick_live {s : State} (h : Live s) :
    (ppuTick s).Done fun _ t => Live t ∧ (PpuRuns s → PpuRuns t) ∧ t.lcd.scx = s.lcd.scx :=
  ((ppuTick_done h.ready).and_sat (ppuTick_moved s)).mono fun _ _ ⟨hr, hm⟩ =>
    ⟨hr.live (hm.status.trans h.running), fun hp => ppuRuns_of_program hp hm.program,
      congrArg (fun s => s.lcd.scx) hm.program⟩

/-! ## The transfer -/

/-- The pop part of a transfer tick (R543), wherever the PPU stands in the framebuffer. -/
theorem popStep_pipelineAt {n : Nat} {s : State} (h : FetchedAt n s.pipe) (hly : s.lcd.ly.toNat < 144)
    (hp : s.pipe.pushedX < 160) :
    (popStep s).Sat fun _ t => PipelineAt (n + 1) t.pipe ∧ t.pipe.scxFine = s.pipe.scxFine ∧
      t.lcd = s.lcd ∧ t.ppu = s.ppu ∧ t.events = s.events := by
  have hsucc := poppedAfter_succ n
  have hle := poppedAfter_le n
  have hlen := h.fifo
  have hline := h.lineX
  have hpushed := h.pushedX
  rw [← hlen] at hsucc
  by_cases h8 : s.pipe.fifo.length ≤ 8
  · rw [if_neg (Nat.not_lt.2 h8), Nat.add_zero] at hsucc
    rw [popStep_of_le h8]
    exact ⟨⟨h.state, h.fetchX, h.fifoX, hsucc ▸ hline, hsucc ▸ hlen, hsucc ▸ hpushed⟩, rfl, rfl, rfl, rfl⟩
  · rw [if_pos (Nat.lt_of_not_le h8)] at hsucc
    obtain ⟨px, rest, hf⟩ : ∃ px rest, s.pipe.fifo = px :: rest := by
      cases hf : s.pipe.fifo with
      | nil =>
        rw [hf] at h8
        exact absurd (Nat.zero_le 8) h8
      | cons px rest => exact ⟨px, rest, rfl⟩
    have hrest : rest.length = 8 * ((n + 1) / 10) - poppedAfter (n + 1) := by
      rw [hf, List.length_cons] at hlen
      omega
    by_cases hx : s.pipe.lineX < s.pipe.scxFine.toNat
    · rw [popStep_of_discard hf (Nat.lt_of_not_le h8) hx]
      refine ⟨⟨h.state, h.fetchX, h.fifoX, ?_, hrest, ?_⟩, rfl, rfl, rfl, rfl⟩
      · show s.pipe.lineX + 1 = _
        omega
      · show s.pipe.pushedX = poppedAfter (n + 1) - s.pipe.scxFine.toNat
        omega
    · rw [popStep_of_draw hf (Nat.lt_of_not_le h8) (Nat.le_of_not_lt hx) hly hp]
      refine ⟨⟨h.state, h.fetchX, h.fifoX, ?_, hrest, ?_⟩, rfl, rfl, rfl, rfl⟩
      · show s.pipe.lineX + 1 = _
        omega
      · show s.pipe.pushedX + 1 = poppedAfter (n + 1) - s.pipe.scxFine.toNat
        omega

/-- A fetch step, on every second tick, changes the pipeline and `windowDrawn` alone. -/
theorem fetchTick_eq (s : State) : ∃ p w, (if s.ppu.lineTicks % 2 = 0 then fetchStep s else s) =
    { s with pipe := p, ppu := { s.ppu with windowDrawn := w } } := by
  split
  · exact fetchStep_eq s
  · exact ⟨s.pipe, s.ppu.windowDrawn, rfl⟩

/-- The pipeline's part of a transfer tick, `n` ticks in (R530). -/
theorem pipelineTick_at {n : Nat} {s : State} (h : PipelineAt n s.pipe) (ht : s.ppu.lineTicks = 80 + n + 1)
    (hly : s.lcd.ly.toNat < 144) (hp : s.pipe.pushedX < 160) :
    (pipelineTick s).Sat fun _ t => PipelineAt (n + 1) t.pipe ∧ t.pipe.scxFine = s.pipe.scxFine ∧
      t.lcd = s.lcd ∧ t.ppu.lineTicks = s.ppu.lineTicks ∧ t.events = s.events := by
  have hpar : s.ppu.lineTicks % 2 = (n + 1) % 2 := by omega
  have hat := fetchStep_at h
  have hkeep : (if s.ppu.lineTicks % 2 = 0 then fetchStep s else s).pipe.pushedX = s.pipe.pushedX ∧
      (if s.ppu.lineTicks % 2 = 0 then fetchStep s else s).pipe.scxFine = s.pipe.scxFine := by
    split
    · exact fetchStep_pushedX s
    · exact ⟨rfl, rfl⟩
  rw [← hpar] at hat
  unfold pipelineTick
  obtain ⟨p, w, he⟩ := fetchTick_eq s
  rw [he] at hat hkeep ⊢
  refine (popStep_pipelineAt hat hly (hkeep.1.trans_lt hp)).mono fun _ t ⟨h1, h2, h3, h4, h5⟩ =>
    ⟨h1, h2.trans hkeep.2, h3, ?_, h5⟩
  rw [h4]

/-- The last pixel of a line is drawn at tick `transferEnd` (R546). -/
theorem pushed_all_iff {n fine : Nat} (hf : fine < 8) (hn : 80 + n ≤ transferEnd fine) :
    poppedAfter n - fine = 160 ↔ 80 + n = transferEnd fine := by
  unfold transferEnd poppedAfter at *
  split_ifs at * <;> omega

/-! ## A visible line -/

/-- The mode at tick `k` of a visible line whose transfer latches `fine` (R501, R502, R546). -/
def lineMode (fine k : Nat) : PpuMode :=
  if k < 80 then .oamScan else if k < transferEnd fine then .transfer else .hblank

/-- Where the PPU stands at tick `k` of a visible line that starts in `s`: the part that a tick's own mode decides. -/
structure TickedTo (s : State) (k : Nat) (t : State) : Prop where
  ticks : t.ppu.lineTicks = k
  ly : t.lcd.ly = s.lcd.ly
  frames : framesDone t = framesDone s
  mode : t.lcd.mode = lineMode (s.lcd.scx.toNat % 8) k
  transfer : t.lcd.mode = .transfer →
    PipelineAt (k - 80) t.pipe ∧ t.pipe.scxFine.toNat = s.lcd.scx.toNat % 8

/-- Where the PPU stands at tick `k` of a visible line that starts in `s`, and that its next tick goes on. -/
structure OnLine (s : State) (k : Nat) (t : State) : Prop extends TickedTo s k t where
  live : Live t
  runs : PpuRuns t
  scx : t.lcd.scx = s.lcd.scx

theorem lineMode_oamScan {fine k : Nat} (hk : k < 80) : lineMode fine k = .oamScan := if_pos hk

theorem lineMode_transfer {fine k : Nat} (hk : 80 ≤ k) (he : k < transferEnd fine) :
    lineMode fine k = .transfer :=
  (if_neg (Nat.not_lt.2 hk)).trans (if_pos he)

theorem transferEnd_range {fine : Nat} (hf : fine < 8) : 80 < transferEnd fine ∧ transferEnd fine < 307 := by
  unfold transferEnd
  split_ifs <;> omega

theorem lineMode_hblank {fine k : Nat} (hf : fine < 8) (he : transferEnd fine ≤ k) : lineMode fine k = .hblank := by
  have hr := (transferEnd_range hf).1
  exact (if_neg (by omega)).trans (if_neg (Nat.not_lt.2 he))

section
variable {s t : State} {k : Nat} (h : OnLine s k t)
include h

/-- A tick of mode 2 stays in it up to tick 79, and tick 80 starts the transfer (R501, R531). -/
theorem OnLine.oamScanTick (hk : k < 80) : (oamScanTick t.nextTick).Sat fun _ u => TickedTo s (k + 1) u := by
  have hfine : s.lcd.scx.toNat % 8 < 8 := Nat.mod_lt _ (by decide)
  have hticks : t.nextTick.ppu.lineTicks = k + 1 := congrArg (· + 1) h.ticks
  obtain ⟨sprites, latch, hscan⟩ : ∃ sprites latch, (if t.nextTick.ppu.lineTicks = 1 then oamScan t.nextTick
      else t.nextTick) =
        { t.nextTick with ppu := { t.nextTick.ppu with lineSprites := sprites, windowLatch := latch } } := by
    split
    · exact ⟨_, _, rfl⟩
    · exact ⟨_, _, rfl⟩
  unfold Machine.oamScanTick
  rw [hscan]
  refine of_ite (P := fun r => Res.Sat r _) (fun h80 => ?_) fun h80 => ?_
  · have hk80 : k + 1 = 80 := hticks.symm.trans h80
    refine (enterMode_entered .transfer _).mono fun _ u hu => ⟨?_, ?_, hu.frames.trans h.frames, ?_, fun _ => ?_⟩
    · rw [hu.ppu]
      exact hticks
    · rw [hu.lcd]
      exact h.ly
    · rw [hu.lcd, hk80, lineMode_transfer le_rfl (transferEnd_range hfine).1]
    · rw [hu.pipe, hk80]
      refine ⟨pipelineAt_start _, ?_⟩
      rw [← h.scx]
      exact BitVec.toNat_setWidth ..
  · have hk80 : k + 1 < 80 := by
      have hne : t.nextTick.ppu.lineTicks ≠ 80 := h80
      omega
    have hmode : t.lcd.mode = .oamScan := h.mode.trans (lineMode_oamScan hk)
    exact ⟨hticks, h.ly, h.frames, hmode.trans (lineMode_oamScan hk80).symm, fun hm => nomatch hmode.symm.trans hm⟩

/-- A tick of mode 3 advances the pipeline, and the tick that draws the last pixel starts mode 0 (R502, R545). -/
theorem OnLine.transferTick (hk : 80 ≤ k) (he : k < transferEnd (s.lcd.scx.toNat % 8)) :
    (transferTick t.nextTick).Sat fun _ u => TickedTo s (k + 1) u := by
  have hfine : s.lcd.scx.toNat % 8 < 8 := Nat.mod_lt _ (by decide)
  have hmode : t.lcd.mode = .transfer := h.mode.trans (lineMode_transfer hk he)
  obtain ⟨hpipe, hscx⟩ := h.transfer hmode
  have hticks : t.nextTick.ppu.lineTicks = 80 + (k - 80) + 1 := by
    show t.ppu.lineTicks + 1 = _
    rw [h.ticks]
    omega
  have hk1 : k - 80 + 1 = k + 1 - 80 := by omega
  have hly := h.live.coherent.line (hmode ▸ nofun)
  refine (pipelineTick_at (s := t.nextTick) hpipe hticks hly (h.live.coherent.column hmode)).andThen
    fun _ u ⟨u1, u2, u3, u4, u5⟩ => ?_
  rw [hk1] at u1
  have hufine : u.pipe.scxFine.toNat = s.lcd.scx.toNat % 8 := (congrArg BitVec.toNat u2).trans hscx
  have huticks : u.ppu.lineTicks = k + 1 := by
    rw [u4, hticks]
    omega
  have huly : u.lcd.ly = s.lcd.ly := (congrArg Lcd.ly u3).trans h.ly
  have huframes : framesDone u = framesDone s := (congrArg (List.count _) u5).trans h.frames
  have hall : u.pipe.pushedX = 160 ↔ k + 1 = transferEnd (s.lcd.scx.toNat % 8) := by
    rw [u1.pushedX, hufine, pushed_all_iff hfine (by omega)]
    omega
  refine of_ite (P := fun r => Res.Sat r _) (fun hp => ?_) fun hp => ?_
  · have hend := hall.1 hp
    refine (enterMode_entered .hblank _).mono fun _ v hv => ?_
    have hvmode : v.lcd.mode = .hblank := by rw [hv.lcd]
    refine ⟨?_, ?_, hv.frames.trans huframes, hvmode.trans (lineMode_hblank hfine hend.ge).symm, fun hm => ?_⟩
    · rw [hv.ppu]
      exact huticks
    · rw [hv.lcd]
      exact huly
    · exact nomatch hvmode.symm.trans hm
  · have hbefore : k + 1 < transferEnd (s.lcd.scx.toNat % 8) := Nat.lt_of_le_of_ne he (mt hall.2 hp)
    refine ⟨huticks, huly, huframes, ?_, fun _ => ⟨u1, hufine⟩⟩
    rw [u3]
    exact hmode.trans (lineMode_transfer (by omega) hbefore).symm

/-- A tick before the line's last (R501-R503). -/
theorem OnLine.ppuTick (hk : k + 1 < 456) : (ppuTick t).Done fun _ u => OnLine s (k + 1) u := by
  have hfine : s.lcd.scx.toNat % 8 < 8 := Nat.mod_lt _ (by decide)
  have hsat : (Machine.ppuTick t).Sat fun _ u => TickedTo s (k + 1) u := by
    rw [ppuTick_of_runs h.runs, h.mode]
    by_cases h80 : k < 80
    · rw [lineMode_oamScan h80]
      exact h.oamScanTick h80
    · by_cases he : k < transferEnd (s.lcd.scx.toNat % 8)
      · rw [lineMode_transfer (Nat.le_of_not_lt h80) he]
        exact h.transferTick (Nat.le_of_not_lt h80) he
      · have hend := Nat.le_of_not_lt he
        have hmode : t.lcd.mode = .hblank := h.mode.trans (lineMode_hblank hfine hend)
        have hticks : t.nextTick.ppu.lineTicks = k + 1 := congrArg (· + 1) h.ticks
        rw [lineMode_hblank hfine hend]
        dsimp only
        rw [if_neg (by omega)]
        exact ⟨hticks, h.ly, h.frames, hmode.trans (lineMode_hblank hfine (Nat.le_succ_of_le hend)).symm,
          fun hm => nomatch hmode.symm.trans hm⟩
  exact ((ppuTick_live h.live).and_sat hsat).mono fun _ u ⟨⟨hl, hr, hx⟩, hu⟩ =>
    ⟨hu, hl, hr h.runs, hx.trans h.scx⟩

end

/-- The start of a visible line. -/
theorem OnLine.start {s : State} (h : Live s) (hr : PpuRuns s) (ht : s.ppu.lineTicks = 0)
    (hm : s.lcd.mode = .oamScan) : OnLine s 0 s :=
  ⟨⟨ht, rfl, rfl, hm, fun h => nomatch hm.symm.trans h⟩, h, hr, rfl⟩

theorem onLine_done {s : State} (h : OnLine s 0 s) {k : Nat} (hk : k ≤ 455) :
    (Res.repeat ppuTick k s).Done fun _ t => OnLine s k t :=
  Res.done_repeat_upTo h (fun _ hk _ ht => ht.ppuTick (Nat.succ_lt_succ hk)) k hk

/-! ## The lines' ends -/

/-- The start of the line `ly` in mode `m`, with `frames` frames completed. -/
structure LineStart (ly : Byte) (m : PpuMode) (frames : Nat) (t : State) : Prop where
  live : Live t
  runs : PpuRuns t
  ticks : t.ppu.lineTicks = 0
  ly : t.lcd.ly = ly
  mode : t.lcd.mode = m
  frames : framesDone t = frames

/-- An entry leaves the line and its tick alone, and completes a frame in mode 1. -/
theorem enterMode_line (m : PpuMode) (s : State) : (enterMode m s).Sat fun _ t =>
    t.ppu.lineTicks = s.ppu.lineTicks ∧ t.lcd.ly = s.lcd.ly ∧ t.lcd.mode = m ∧
      framesDone t = framesDone s + if m = .vblank then 1 else 0 :=
  (enterMode_entered m s).mono fun _ t ht =>
    ⟨by rw [ht.ppu], by rw [ht.lcd], by rw [ht.lcd], ht.frames⟩

/-- The end of a visible line (R503). -/
theorem endLine_line (s : State) : (endLine s).Sat fun _ t =>
    t.ppu.lineTicks = 0 ∧ t.lcd.ly = s.lcd.ly + 1 ∧ t.lcd.mode = (if s.lcd.ly = 143 then .vblank else .oamScan) ∧
      framesDone t = framesDone s + if s.lcd.ly = 143 then 1 else 0 := by
  have hnext : s.lcd.ly + 1 = 144 ↔ s.lcd.ly = 143 := BitVec.add_left_inj (y := 143) 1
  unfold endLine
  by_cases hly : s.lcd.ly = 143
  · simp only [hnext, if_pos hly]
    exact enterMode_line .vblank _
  · simp only [hnext, if_neg hly]
    exact enterMode_line .oamScan _

/-- The end of a VBlank line (R505). -/
theorem endVblankLine_line {s : State} (hm : s.lcd.mode = .vblank) : (endVblankLine s).Sat fun _ t =>
    t.ppu.lineTicks = 0 ∧ t.lcd.ly = (if s.lcd.ly = 153 then 0 else s.lcd.ly + 1) ∧
      t.lcd.mode = (if s.lcd.ly = 153 then .oamScan else .vblank) ∧ framesDone t = framesDone s := by
  have hnext : s.lcd.ly + 1 = 154 ↔ s.lcd.ly = 153 := BitVec.add_left_inj (y := 153) 1
  unfold endVblankLine
  by_cases hly : s.lcd.ly = 153
  · simp only [hnext, if_pos hly]
    exact enterMode_line .oamScan _
  · simp only [hnext, if_neg hly]
    rw [updateCoincidence_eq]
    exact ⟨rfl, rfl, hm, rfl⟩

/-- A visible line lasts 456 ticks (R503). -/
theorem visibleLine_done {s : State} (h : Live s) (hr : PpuRuns s) (ht : s.ppu.lineTicks = 0)
    (hm : s.lcd.mode = .oamScan) : (Res.repeat ppuTick 456 s).Done fun _ t =>
      LineStart (s.lcd.ly + 1) (if s.lcd.ly = 143 then .vblank else .oamScan)
        (framesDone s + if s.lcd.ly = 143 then 1 else 0) t := by
  rw [show 456 = 455 + 1 from rfl, Res.repeat_add]
  refine (onLine_done (OnLine.start h hr ht hm) le_rfl).andThen fun _ t hl => ?_
  have hfine : s.lcd.scx.toNat % 8 < 8 := Nat.mod_lt _ (by decide)
  have hmode : t.lcd.mode = .hblank :=
    hl.mode.trans (lineMode_hblank hfine ((transferEnd_range hfine).2.le.trans (by decide)))
  have hlast : ppuTick t = endLine t.nextTick := by
    rw [ppuTick_of_runs hl.runs, hmode]
    exact if_pos (congrArg (· + 1) hl.ticks)
  have hend := hlast ▸ endLine_line t.nextTick
  refine ((ppuTick_live hl.live).and_sat hend).andThen fun _ u ⟨⟨ulive, uruns, _⟩, uticks, uly, umode, uframes⟩ =>
    Res.done_ok ⟨ulive, uruns hl.runs, uticks, ?_, ?_, ?_⟩
  · exact uly.trans (congrArg (· + 1) hl.ly)
  · rw [umode, ← hl.ly]
    rfl
  · rw [uframes, ← hl.ly, ← hl.frames]
    rfl

/-- Where the PPU stands `k` ticks into a VBlank line that starts in `s`: nothing but the tick has moved. -/
def State.vblankTicked (s : State) (k : Nat) : State := { s with ppu := { s.ppu with lineTicks := k } }

theorem Live.vblankTicked {s : State} (h : Live s) (k : Nat) : Live (s.vblankTicked k) :=
  Ready.live (s := s.vblankTicked k) (h.ready.of_eq rfl rfl rfl rfl rfl rfl) h.running

/-- A VBlank line lasts 456 ticks (R505). -/
theorem vblankLine_done {s : State} (h : Live s) (hr : PpuRuns s) (ht : s.ppu.lineTicks = 0)
    (hm : s.lcd.mode = .vblank) : (Res.repeat ppuTick 456 s).Done fun _ t =>
      LineStart (if s.lcd.ly = 153 then 0 else s.lcd.ly + 1) (if s.lcd.ly = 153 then .oamScan else .vblank)
        (framesDone s) t := by
  have htick : ∀ k, ppuTick (s.vblankTicked k) =
      if k + 1 = 456 then endVblankLine (s.vblankTicked (k + 1)) else .ok () (s.vblankTicked (k + 1)) := fun k => by
    rw [ppuTick_of_runs (s := s.vblankTicked k) hr]
    show (match s.lcd.mode with | .oamScan => _ | .transfer => _ | .hblank => _ | .vblank => _) = _
    rw [hm]
    rfl
  have hline : (Res.repeat ppuTick 455 s).Done fun _ t => t = s.vblankTicked 455 := by
    refine Res.done_repeat_upTo (P := fun k t => t = s.vblankTicked k) ?_ (fun k hk t hkt => ?_) 455 le_rfl
    · unfold State.vblankTicked
      rw [← ht]
    · rw [hkt, htick, if_neg (by omega)]
      exact Res.done_ok rfl
  rw [show 456 = 455 + 1 from rfl, Res.repeat_add]
  refine hline.andThen fun _ t hkt => ?_
  subst hkt
  have hend : (ppuTick (s.vblankTicked 455)).Sat _ :=
    ((htick 455).trans (if_pos rfl)) ▸ endVblankLine_line (s := s.vblankTicked 456) hm
  exact ((ppuTick_live (h.vblankTicked 455)).and_sat hend).andThen
    fun _ u ⟨⟨ulive, uruns, _⟩, uticks, uly, umode, uframes⟩ =>
      Res.done_ok ⟨ulive, uruns hr, uticks, uly, umode, uframes⟩

/-! ## The frame -/

/-- The mode in which line `j` of a frame starts; after the last line, line 0 again (R506). -/
def lineStartMode (j : Nat) : PpuMode := if j < 144 ∨ j = 154 then .oamScan else .vblank

/-- The start of line `j` of a frame that starts in `s`: the frame is completed at the start of line 144 (R511). -/
def FrameLine (s : State) (j : Nat) (t : State) : Prop :=
  LineStart (BitVec.ofNat 8 (j % 154)) (lineStartMode j) (framesDone s + if 144 ≤ j then 1 else 0) t

theorem FrameLine.next {s t : State} {j : Nat} (h : FrameLine s j t) (hj : j < 154) :
    (Res.repeat ppuTick 456 t).Done fun _ u => FrameLine s (j + 1) u := by
  have hly : t.lcd.ly = BitVec.ofNat 8 j := h.ly.trans (by rw [Nat.mod_eq_of_lt hj])
  have heq : ∀ n < 256, t.lcd.ly = BitVec.ofNat 8 n ↔ j = n := fun n hn => by
    rw [hly, ← BitVec.toNat_inj, BitVec.toNat_ofNat, BitVec.toNat_ofNat]
    omega
  have h143 : t.lcd.ly = 143 ↔ j = 143 := heq 143 (by decide)
  have h153 : t.lcd.ly = 153 ↔ j = 153 := heq 153 (by decide)
  have hsucc : t.lcd.ly + 1 = BitVec.ofNat 8 (j + 1) := by
    rw [hly, BitVec.ofNat_add]
    rfl
  unfold FrameLine at h ⊢
  by_cases hvis : j < 144
  · have hm : t.lcd.mode = .oamScan := h.mode.trans (if_pos (.inl hvis))
    have hline := visibleLine_done h.live h.runs h.ticks hm
    have hmode : (if j = 143 then PpuMode.vblank else .oamScan) = lineStartMode (j + 1) := by
      by_cases hlast : j = 143
      · rw [if_pos hlast, lineStartMode, if_neg (by omega)]
      · rw [if_neg hlast, lineStartMode, if_pos (by omega)]
    have hframes : framesDone t + (if j = 143 then 1 else 0) = framesDone s + if 144 ≤ j + 1 then 1 else 0 := by
      rw [h.frames, if_neg (Nat.not_le.2 hvis)]
      split_ifs <;> omega
    rw [Nat.mod_eq_of_lt (by omega : j + 1 < 154), ← hmode, ← hframes]
    simpa only [hsucc, h143] using hline
  · have hm : t.lcd.mode = .vblank := h.mode.trans (if_neg (by omega))
    have hline := vblankLine_done h.live h.runs h.ticks hm
    have hnext : (if j = 153 then 0 else BitVec.ofNat 8 (j + 1)) = BitVec.ofNat 8 ((j + 1) % 154) := by
      split_ifs with h153
      · rw [h153]
        rfl
      · rw [Nat.mod_eq_of_lt (by omega)]
    have hmode : (if j = 153 then PpuMode.oamScan else .vblank) = lineStartMode (j + 1) := by
      by_cases hlast : j = 153
      · rw [if_pos hlast, lineStartMode, if_pos (by omega)]
      · rw [if_neg hlast, lineStartMode, if_neg (by omega)]
    have hframes : framesDone t = framesDone s + if 144 ≤ j + 1 then 1 else 0 := by
      rw [h.frames, if_pos (Nat.le_of_not_lt hvis), if_pos (by omega)]
    rw [← hnext, ← hmode, ← hframes]
    simpa only [hsucc, h153] using hline

end Sys2Proof.Machine

/-! ## The obligations -/

namespace Sys2Proof.Laws.Lines

open Sys2Proof.Machine Sys2Proof.Claims

/-- Settles O32: `OnLine` at each tick. -/
theorem transferLength : Obligations.TransferLength := by
  intro s k h hr ht hm hk
  obtain ⟨_, t, hrun, hl⟩ := onLine_done (OnLine.start h hr ht hm) (Nat.le_of_lt_succ hk)
  exact ⟨t, hrun, hl.ticks, hl.ly, hl.mode⟩

/-- Settles O31: the two kinds of lines. -/
theorem lineTiming : Obligations.LineTiming := by
  refine fun s h hr ht => ⟨fun hm => ?visible, fun hm => ?vblank⟩
  case visible =>
    obtain ⟨_, t, hrun, hl⟩ := visibleLine_done h hr ht hm
    exact ⟨t, hrun, hl.live, hl.ticks, hl.ly, hl.mode⟩
  case vblank =>
    obtain ⟨_, t, hrun, hl⟩ := vblankLine_done h hr ht hm
    exact ⟨t, hrun, hl.live, hl.ticks, hl.ly, hl.mode⟩

/-- Settles O33, by induction on the lines of the frame. -/
theorem frameTiming : Obligations.FrameTiming := by
  intro s h hr ht hm hly
  obtain ⟨_, t, hrun, hl⟩ := Res.done_repeat_upTo (P := FrameLine s) ⟨h, hr, ht, hly, hm, rfl⟩
    (fun _ hj _ hl => FrameLine.next hl hj) 154 le_rfl
  exact ⟨t, (Res.repeat_mul ppuTick 456 154 s).trans hrun, hl.live, hl.ticks, hl.mode, hl.ly, hl.frames⟩

end Sys2Proof.Laws.Lines
end

section
/-! OAM DMA (62_dma_hdma.md R460-R465): the ticks of a machine cycle leave the transfer and OAM to the DMA step, which
copies one byte a cycle after the start delay. -/

namespace Sys2Proof.Machine

open Sys2Proof.Claims

/-! ## What ticks leave alone -/

/-- The transfer and OAM are as they were. -/
structure OamKept (s t : State) : Prop where
  dma : t.dma = s.dma
  oam : t.mem.oam = s.mem.oam

theorem OamKept.trans {s t u : State} (h : OamKept s t) (k : OamKept t u) : OamKept s u :=
  ⟨k.dma.trans h.dma, k.oam.trans h.oam⟩

theorem enterMode_oamKept (m : PpuMode) (s : State) : (enterMode m s).Sat fun _ t => OamKept s t :=
  (enterMode_entered m s).mono fun _ _ ht => ⟨by rw [ht.frame], by rw [ht.mem]⟩

theorem oamScanTick_oamKept (s : State) : (oamScanTick s).Sat fun _ t => OamKept s t := by
  have hscan : OamKept s (if s.ppu.lineTicks = 1 then oamScan s else s) := by
    split
    · exact ⟨rfl, rfl⟩
    · exact ⟨rfl, rfl⟩
  refine of_ite (P := fun r => Res.Sat r _) (fun _ => ?_) fun _ => hscan
  exact (enterMode_oamKept _ _).mono fun _ _ ht => hscan.trans ht

theorem drawPixel_oamKept (px : Pixel) (s : State) : (drawPixel px s).Sat fun _ t => OamKept s t :=
  of_ite (P := fun r => Res.Sat r _) (fun _ => ⟨rfl, rfl⟩) fun _ => sat_raise _ _ _

theorem popStep_oamKept (s : State) : (popStep s).Sat fun _ t => OamKept s t := by
  unfold popStep
  split
  · exact ⟨rfl, rfl⟩
  · refine of_ite (P := fun r => Res.Sat r _) (fun _ => ?_) fun _ => ⟨rfl, rfl⟩
    refine Res.Sat.andThen (P := fun _ t => OamKept s t) ?_ fun _ _ ht => ⟨ht.dma, ht.oam⟩
    refine of_ite (P := fun r => Res.Sat r _) (fun _ => ?_) fun _ => ⟨rfl, rfl⟩
    exact (drawPixel_oamKept _ _).mono fun _ _ ht => ⟨ht.dma, ht.oam⟩

theorem transferTick_oamKept (s : State) : (transferTick s).Sat fun _ t => OamKept s t := by
  unfold transferTick pipelineTick
  obtain ⟨p, w, he⟩ := fetchTick_eq s
  rw [he]
  refine (popStep_oamKept _).andThen fun _ t ht => ?_
  refine of_ite (P := fun r => Res.Sat r _) (fun _ => ?_) fun _ => ⟨ht.dma, ht.oam⟩
  exact (enterMode_oamKept _ _).mono fun _ _ hu => ⟨hu.dma.trans ht.dma, hu.oam.trans ht.oam⟩

theorem endLine_oamKept (s : State) : (endLine s).Sat fun _ t => OamKept s t :=
  of_ite (P := fun r => Res.Sat r _)
    (fun _ => (enterMode_oamKept _ _).mono fun _ _ ht => ⟨ht.dma, ht.oam⟩)
    fun _ => (enterMode_oamKept _ _).mono fun _ _ ht => ⟨ht.dma, ht.oam⟩

theorem endVblankLine_oamKept (s : State) : (endVblankLine s).Sat fun _ t => OamKept s t := by
  refine of_ite (P := fun r => Res.Sat r _) (fun _ => ?_) fun _ => ?_
  · exact (enterMode_oamKept _ _).mono fun _ _ ht => ⟨ht.dma, ht.oam⟩
  · rw [updateCoincidence_eq]
    exact ⟨rfl, rfl⟩

/-- The PPU's tick (R498). -/
theorem ppuTick_oamKept (s : State) : (ppuTick s).Sat fun _ t => OamKept s t := by
  by_cases hr : PpuRuns s
  · have hnext : OamKept s s.nextTick := ⟨rfl, rfl⟩
    rw [ppuTick_of_runs hr]
    split
    · exact (oamScanTick_oamKept _).mono fun _ _ ht => hnext.trans ht
    · exact (transferTick_oamKept _).mono fun _ _ ht => hnext.trans ht
    · exact of_ite (P := fun r => Res.Sat r _)
        (fun _ => (endLine_oamKept _).mono fun _ _ ht => hnext.trans ht) fun _ => hnext
    · exact of_ite (P := fun r => Res.Sat r _)
        (fun _ => (endVblankLine_oamKept _).mono fun _ _ ht => hnext.trans ht) fun _ => hnext
  · rw [ppuTick_of_stopped hr]
    exact ⟨rfl, rfl⟩

theorem tick_oamKept (s : State) : (tick s).Sat fun _ t => OamKept s t := by
  have htimer : OamKept s (timerTick s) := by
    unfold timerTick
    dsimp only
    split
    · split
      · exact ⟨rfl, rfl⟩
      · exact ⟨rfl, rfl⟩
    · exact ⟨rfl, rfl⟩
  exact (ppuTick_oamKept _).mono fun _ _ ht => htimer.trans ht

theorem ticks_oamKept (n : Nat) (s : State) : (Res.repeat tick n s).Sat fun _ t => OamKept s t :=
  Res.sat_repeat_keep (G := OamKept s) (fun t ht => (tick_oamKept t).mono fun _ _ hu => ht.trans hu) n s ⟨rfl, rfl⟩

/-! ## A machine cycle of a transfer -/

/-- The address of the `i`-th source byte (R462). -/
def oamDmaSource (page : Byte) (i : Nat) : Word := BitVec.ofNat 16 (page.toNat * 256 + i)

/-- The DMA step of an active transfer counts its delay down, or copies the byte at its index (R462). -/
theorem dmaStep_active {s : State} (ha : s.dma.active = true) : (dmaStep s).Sat fun _ t =>
    (s.dma.delay ≠ 0 → t.dma = { s.dma with delay := s.dma.delay - 1 } ∧ t.mem.oam = s.mem.oam) ∧
    (s.dma.delay = 0 →
      t.dma = { s.dma with index := s.dma.index + 1, active := decide (s.dma.index + 1 ≠ 160) } ∧
      t.mem.oam = Cells.set s.mem.oam s.dma.index (s.peek (oamDmaSource s.dma.page s.dma.index))) := by
  unfold dmaStep
  rw [ha]
  refine of_ite (P := fun r => Res.Sat r _) nofun fun _ => ?_
  refine of_ite (P := fun r => Res.Sat r _) (fun hd => ⟨fun _ => ⟨rfl, rfl⟩, fun h0 => absurd hd (by omega)⟩)
    fun hd => ?_
  refine (busRead_sat _ s).andThen fun v t ⟨hv, ht⟩ => ?_
  refine of_ite (P := fun r => Res.Sat r _) (fun _ => ?_) fun _ => sat_raise _ _ _
  refine ⟨fun h0 => absurd (Nat.pos_of_ne_zero h0) hd, fun _ => ?_⟩
  rcases ht with rfl | rfl
  · exact ⟨rfl, by rw [hv]; rfl⟩
  · exact ⟨rfl, by rw [hv]; rfl⟩

/-- A machine cycle in which a transfer is active (R184, R462): the byte it copies is the one that was at its address
before the cycle, if no device moves that. -/
theorem cycle_active {s : State} (ha : s.dma.active = true) : (cycle s).Sat fun _ t =>
    (s.dma.delay ≠ 0 → t.dma = { s.dma with delay := s.dma.delay - 1 } ∧ t.mem.oam = s.mem.oam) ∧
    (s.dma.delay = 0 → s.StillByte (oamDmaSource s.dma.page s.dma.index) →
      t.dma = { s.dma with index := s.dma.index + 1, active := decide (s.dma.index + 1 ≠ 160) } ∧
      t.mem.oam = Cells.set s.mem.oam s.dma.index (s.peek (oamDmaSource s.dma.page s.dma.index))) := by
  refine Res.Sat.andThen ((ticks_oamKept 4 _).and (ticks_moved 4 { s with cycles := s.cycles + 1 }))
    fun _ u ⟨hk, hm⟩ => ?_
  have hdma : u.dma = s.dma := hk.dma
  have hoam : u.mem.oam = s.mem.oam := hk.oam
  refine (dmaStep_active (hdma ▸ ha)).mono fun _ t ⟨hdelay, hcopy⟩ => ?_
  rw [hdma, hoam] at hdelay hcopy
  refine ⟨hdelay, fun h0 hstill => ?_⟩
  have hpeek : u.peek (oamDmaSource s.dma.page s.dma.index) = s.peek (oamDmaSource s.dma.page s.dma.index) :=
    peek_eq_of_program hm.program (fun h => (hm.oam h).1) (fun h => (hm.vram h).1) hstill
  rw [← hpeek]
  exact hcopy h0

/-! ## A whole transfer -/

/-- `k` machine cycles after its start a transfer has counted its delay down and copied the bytes of the cycles after
it (R462, R465); the `162`nd ends it. -/
structure OamDmaAfter (page : Byte) (s : State) (k : Nat) (t : State) : Prop where
  live : Live t
  elapsed : Elapsed k (startOamDma page s) t
  dma : t.dma = { active := decide (k < 162), delay := 2 - k, page := page, index := k - 2, reg := page }
  copied : ∀ i < k - 2, Cells.get t.mem.oam i = (startOamDma page s).peek (oamDmaSource page i)

/-- A transfer whose source bytes no device moves starts on a live machine: its page is not that of the I/O block. -/
theorem OamDmaAfter.start {page : Byte} {s : State} (h : Live s)
    (hstill : (startOamDma page s).StillByte (oamDmaSource page 0)) : OamDmaAfter page s 0 (startOamDma page s) := by
  have hpage : page ≠ 0xFF := by
    rintro rfl
    exact hstill
  refine ⟨⟨h.running, h.neverRefuses.imp_right fun ⟨_, hhdma⟩ => ⟨fun _ => hpage, hhdma⟩,
    ⟨fun _ => (by decide : 0 < 160), h.coherent.hdmaDst, h.coherent.line, h.coherent.column⟩⟩, .refl _, rfl, nofun⟩

theorem OamDmaAfter.cycle {page : Byte} {s t : State} {k : Nat} (h : OamDmaAfter page s k t) (hk : k < 162)
    (hstill : ∀ i < 160, (startOamDma page s).StillByte (oamDmaSource page i)) :
    (cycle t).Done fun _ u => OamDmaAfter page s (k + 1) u := by
  have hactive : t.dma.active = true := by rw [h.dma]; exact decide_eq_true hk
  refine ((cycle_live h.live).and_sat (cycle_active hactive)).mono fun _ u ⟨⟨hlive, he⟩, hdelay, hcopy⟩ => ?_
  rw [h.dma] at hdelay hcopy
  dsimp only at hdelay hcopy
  by_cases h2 : k < 2
  · obtain ⟨hdma, -⟩ := hdelay (by omega)
    refine ⟨hlive, h.elapsed.trans he, hdma.trans ((OamDma.mk.injEq ..).mpr ⟨?_, by omega, rfl, by omega, rfl⟩),
      fun i hi => absurd hi (by omega)⟩
    exact decide_eq_decide.2 (by omega)
  · have hsource := hstill (k - 2) (by omega)
    obtain ⟨hdma, hoam⟩ := hcopy (by omega) (h.elapsed.still hsource)
    refine ⟨hlive, h.elapsed.trans he, hdma.trans ((OamDma.mk.injEq ..).mpr ⟨?_, by omega, rfl, by omega, rfl⟩),
      fun i hi => ?_⟩
    · exact decide_eq_decide.2 (by omega)
    · rw [hoam, h.elapsed.bytes _ hsource]
      by_cases hlast : i = k - 2
      · rw [hlast, Cells.get_set_same]
      · rw [Cells.get_set_ne _ _ hlast]
        exact h.copied i (by omega)

/-- A byte that no device moves is no register, and reads the same once a transfer has started. -/
theorem peek_startOamDma {page : Byte} {s : State} {a : Word} (h : (startOamDma page s).StillByte a) :
    (startOamDma page s).peek a = s.peek a := by
  show (startOamDma page s).byteAt a (s.locate a) = s.byteAt a (s.locate a)
  cases hl : s.locate a with
  | io r =>
    have hs : (startOamDma page s).StillAt (s.locate a) := h
    rw [hl] at hs
    exact hs.elim
  | _ => rfl

/-- A byte of OAM as read (R85). -/
theorem peek_oam (s : State) {i : Nat} (hi : i < 160) :
    s.peek (BitVec.ofNat 16 (0xFE00 + i)) = Cells.get s.mem.oam i := by
  have ha : (BitVec.ofNat 16 (0xFE00 + i)).toNat = 0xFE00 + i := by
    rw [BitVec.toNat_ofNat]
    omega
  unfold State.peek
  rw [s.locate_oam (by omega), ha, Nat.add_sub_cancel_left]
  rfl

end Sys2Proof.Machine

/-! ## The obligation -/

namespace Sys2Proof.Laws.Oam

open Sys2Proof.Machine

/-- Settles O26, by induction on the machine cycles. -/
theorem oamDmaCopies : Obligations.OamDmaCopies := by
  intro s page h hstill
  have hafter := Res.done_repeat_upTo (OamDmaAfter.start h (hstill 0 (by decide))) fun k hk t ht => ht.cycle hk hstill
  obtain ⟨_, m, hm, hbefore⟩ := hafter 161 (by decide)
  obtain ⟨_, t, ht, hend⟩ := hafter 162 le_rfl
  refine ⟨m, t, hm, by rw [hbefore.dma]; rfl, ht, by rw [hend.dma]; rfl, hend.live, fun i hi => ?_⟩
  rw [peek_oam t hi, hend.copied i hi]
  exact peek_startOamDma (hstill i hi)

end Sys2Proof.Laws.Oam
end
